-- ==== Sys2Proof/Word.lean ====
section
/-! DEFINITION. The data model of the block (00_scope.md R7; 10_state.md R24, R25, R36): bytes, the 16-bit sample and
the two two-valued enumerations. Every value is unsigned. -/

namespace Sys2Proof

/-- A byte: 8 bits, bit 0 the least significant (00_scope.md R7). -/
abbrev Byte := BitVec 8

/-- A Sample: a 16-bit unsigned value, never kept in the state (00_scope.md §6; 10_state.md R35). -/
abbrev Sample := BitVec 16

/-- `Range = Small | Large` (00_scope.md R7, 10_state.md R24). -/
inductive Range where
  | small
  | large
deriving DecidableEq, Repr, Inhabited

/-- `Wave = Wave1 | Wave2` (00_scope.md R7, 10_state.md R25). -/
inductive Wave where
  | wave1
  | wave2
deriving DecidableEq, Repr, Inhabited

end Sys2Proof
end

