-- ==== Sys2Proof/Syntax.lean ====
section
/-! DEFINITION. The syntax of the block: the eight commands (one constructor for each row of spec/opcode_table.json),
the events that its four agents perform, and the lines of an event script (30_encoding.md R81, R82). -/

namespace Sys2Proof

/-- A Command: the closed enumeration of 30_encoding.md R71, one constructor for each row of the opcode table. -/
inductive Instr where
  /-- Row `Connect`, byte 0x76 (41_command_processor.md R131). -/
  | connect
  /-- Row `StartStreaming`, byte 0x62 (R132). -/
  | startStreaming
  /-- Row `StopStreaming`, byte 0x73 (R133). -/
  | stopStreaming
  /-- Row `SelectWave1`, byte 0x65 (R134). -/
  | selectWave1
  /-- Row `SelectWave2`, byte 0x66 (R135). -/
  | selectWave2
  /-- Row `SelectRangeSmall`, byte 0x74 (R136). -/
  | selectRangeSmall
  /-- Row `SelectRangeLarge`, byte 0x79 (R137). -/
  | selectRangeLarge
  /-- Row `Unknown`: any other byte, which is its own operand (R138; 30_encoding.md R73). -/
  | unknown (c : Byte)
deriving DecidableEq, Repr, Inhabited

/-- The four agents (00_scope.md R5). -/
inductive Agent where
  /-- The Dispatch Loop in main-loop context. -/
  | mainLoop
  /-- The Sampling Timer. -/
  | timer
  /-- The timer-interrupt handler context. -/
  | handler
  /-- The single remote peer on the Transport. -/
  | remoteHost
deriving DecidableEq, Repr

/-- One step of one agent (43_dispatch_loop.md R185), as event scripts name it (30_encoding.md R81). -/
inductive Event where
  /-- `m`: one MAIN micro-step (43_dispatch_loop.md R183). -/
  | main
  /-- `tick`: the timer raises its status flag (60_exceptions.md R202). -/
  | tick
  /-- `isr`: one handler invocation (60_exceptions.md R203). -/
  | isr
  /-- `rx B`: HOST appends the byte B (43_dispatch_loop.md R184). -/
  | rx (b : Byte)
deriving DecidableEq, Repr, Inhabited

/-- The agent whose step an event is (30_encoding.md R81, column "agent"). -/
def Event.agent : Event → Agent
  | .main => .mainLoop
  | .tick => .timer
  | .isr => .handler
  | .rx _ => .remoteHost

/-- One line of an event script: the events and the draw of 30_encoding.md R81 and the pseudo-events of R82. -/
inductive ScriptLine where
  /-- A line that is one event. -/
  | event (e : Event)
  /-- `draw V`: the next `SamplerRead()` returns V. -/
  | draw (v : Nat)
  /-- `fire`: `tick` then `isr`. -/
  | fire
  /-- `iter`: `m` repeated until the phase is back at RX_CHECK. -/
  | iter
  /-- `send B`: `rx B` then `iter`. -/
  | send (b : Byte)
deriving DecidableEq, Repr

end Sys2Proof
end

