-- ==== Sys2Proof/Config.lean ====
section
/-! DEFINITION. What an implementation fixes and the spec leaves OPEN (00_scope.md R6; 92_eei_decisions.md), and the
free values: the scheduling of the agents and the sampler's values. Each is an opaque constant, so a claim holds
whatever it is. The parameters the spec gives a value stand where a definition uses them: P_CMD_TABLE in Decode.lean;
P_SAMPLE_HDR, P_SAMPLE_TRL, P_LINE_TERM and P_ERROR_RENDER in Machine/PacketEncoder.lean. -/

namespace Sys2Proof.Config

/-- `P_CONNECT_REPLY`: OPEN, a fixed finite byte string (R6, D9). -/
opaque connectReply : List Byte

/-- `P_ERROR_PREFIX`: OPEN, a fixed finite byte string (R6, D10). -/
opaque errorPrefix : List Byte

/-- How far the raw sampler width exceeds 16 bits: OPEN (R6, D15). -/
opaque rawExtraWidth : Nat

/-- `P_RAW_WIDTH`: OPEN, at least 16 (R6, D15). -/
def rawWidth : Nat := 16 + rawExtraWidth

/-- `P_SAMPLE_PERIOD`: OPEN; no rule reads it (R6, D28), and no definition of this model does. -/
opaque samplePeriod : Nat

/-- `P_RANGE_CODE_SMALL`: OPEN (R6, D11). -/
opaque rangeCodeSmall : Nat

/-- The implementation's choice of the other range code, before it is made distinct. -/
opaque rangeCodeOther : Nat

/-- `P_RANGE_CODE_LARGE`: OPEN, distinct from `P_RANGE_CODE_SMALL` (R6, R80, D11). Every pair of distinct codes is
some choice of the two opaque constants. -/
def rangeCodeLarge : Nat := if rangeCodeOther = rangeCodeSmall then rangeCodeSmall + 1 else rangeCodeOther

/-- `P_WAVE_CODE_1`: OPEN (R6, D11). -/
opaque waveCode1 : Nat

/-- The implementation's choice of the other waveform code, before it is made distinct. -/
opaque waveCodeOther : Nat

/-- `P_WAVE_CODE_2`: OPEN, distinct from `P_WAVE_CODE_1` (R6, R80, D11). -/
def waveCode2 : Nat := if waveCodeOther = waveCode1 then waveCode1 + 1 else waveCodeOther

/-- `P_AFE_INIT.range`: OPEN, the output generator's range at power-on (R6, D13). -/
opaque afeInitRange : Range

/-- `P_AFE_INIT.waveform`: OPEN, the output generator's waveform at power-on (R6, D13). -/
opaque afeInitWave : Wave

/-- The free schedule: which step the environment would take at each turn (43_dispatch_loop.md R185: any enabled step
may be taken next; DESIGN CHOICE, log entry 1). -/
opaque turn : Nat → Event

/-- The free draw: the sampler's value at each read, before it is cut to `rawWidth` bits (40_streaming_controller.md
R106; log entry 2). -/
opaque rawSample : Nat → Nat

end Sys2Proof.Config
end

