-- ==== Sys2Proof/Decode.lean ====
section
/-! DEFINITION. The single-byte command decoder (30_encoding.md R70 to R75), total on every byte, and the encoder
written beside it from the same table of spec/30_encoding.md R72. -/

namespace Sys2Proof

/-- A configuration table: the recognised bytes, each with its command (`P_CMD_TABLE`; 00_scope.md R6, 30_encoding.md
R71). A byte it does not list is not recognised. -/
abbrev CmdTable := List (Byte × Instr)

/-- The default `P_CMD_TABLE` (30_encoding.md R72). UNVERIFIED: the spec gives the byte values as the ASCII codes of
the source's characters, from general knowledge (93_implementation_defined.md G2; log entry 12). -/
def defaultTable : CmdTable :=
  [ (0x76#8, .connect),
    (0x62#8, .startStreaming),
    (0x73#8, .stopStreaming),
    (0x65#8, .selectWave1),
    (0x66#8, .selectWave2),
    (0x74#8, .selectRangeSmall),
    (0x79#8, .selectRangeLarge) ]

/-- Decoding by a configuration table: a byte the table does not recognise is `Unknown` and carries itself
(30_encoding.md R71, R73). -/
def decodeWith (table : CmdTable) (c : Byte) : Instr :=
  (table.lookup c).getD (.unknown c)

/-- `decode(c) = P_CMD_TABLE(c)` (30_encoding.md R71), for the default table (92_eei_decisions.md D27). -/
def decode (c : Byte) : Instr :=
  decodeWith defaultTable c

/-- Why a byte string holds no command. -/
inductive DecodeReject where
  /-- There is no byte to decode. Every byte that is there decodes (30_encoding.md R74). -/
  | noByte
deriving DecidableEq, Repr

/-- What decoding a byte string answers: a command and the bytes after it, or a rejection by name. -/
inductive Decoded where
  | command (i : Instr) (rest : List Byte)
  | rejected (r : DecodeReject)
deriving DecidableEq, Repr

/-- Decode the first command of a byte string: always exactly one byte (30_encoding.md R75). -/
def decodeBytes : List Byte → Decoded
  | [] => .rejected .noByte
  | c :: rest => .command (decode c) rest

/-- The byte of a command (30_encoding.md R72; the byte of `Unknown(c)` is c, R70). -/
def encodeByte : Instr → Byte
  | .connect => 0x76#8
  | .startStreaming => 0x62#8
  | .stopStreaming => 0x73#8
  | .selectWave1 => 0x65#8
  | .selectWave2 => 0x66#8
  | .selectRangeSmall => 0x74#8
  | .selectRangeLarge => 0x79#8
  | .unknown c => c

/-- The words of a command: one byte (30_encoding.md R75). -/
def encode (i : Instr) : List Byte := [encodeByte i]

/-- The byte a configuration table gives a command; `Unknown(c)` is sent as c itself (30_encoding.md R70, R71). Where
two bytes have the command, the one listed first (DESIGN CHOICE, log entry 29). -/
def encodeWith (table : CmdTable) : Instr → Option Byte
  | .unknown c => some c
  | i => (table.find? fun row => row.2 == i).map Prod.fst

/-- The command the decoder reads from an instruction whose bits are w, numbered as spec/opcode_table.json numbers
them. Every command is one byte, so more than eight bits are no command. -/
def decodeTableWord (nbits w : Nat) : Option Instr :=
  if nbits ≤ 8 then
    match decodeBytes [BitVec.ofNat 8 (w % 2 ^ nbits)] with
    | .command i _ => some i
    | .rejected _ => none
  else none

end Sys2Proof
end

