-- ==== Sys2Proof/Machine/State.lean ====
section
/-! DEFINITION. The whole state of the block as plain data: the record `S` of 10_state.md R20, field by field, and
beside it one field of the MODEL's own, the oracle, which holds what the environment decides (which agent steps next
and which values the sampler gives). Also how a step can stop, and the state at power-on. -/

namespace Sys2Proof.Machine

/-- MAIN's position in its iteration, the program-counter analogue (10_state.md R31). -/
inductive Phase where
  /-- `RX_CHECK`: the start of an iteration. -/
  | rxCheck
  /-- `SAMPLE_CHECK`: the RX part is done, the sample test is next. -/
  | sampleCheck
  /-- `EMIT`: the test found a due sample; the read and transmit are next. -/
  | emit
  /-- `CLEAR`: the packet has been sent; `sampleDue <- false` is next. -/
  | clear
deriving DecidableEq, Repr, Inhabited

/-- One write to the Analog Front End's output generator (10_state.md R20, R34). -/
inductive AfeWrite where
  | setRange (r : Range)
  | selectWave (w : Wave)
deriving DecidableEq, Repr

/-- The MODEL's own field, not the spec's: what the environment decides. Two lists hold decisions already taken (an
event script, 30_encoding.md R81); past their end the free values `Config.turn` and `Config.rawSample` decide, each at
its counter (log entries 1 and 2). -/
structure Oracle where
  /-- The steps the environment has already chosen, next first. -/
  schedule : List Event
  /-- The values the sampler will return, next first. -/
  draws : List Nat
  /-- How many steps have been taken: the index of the next free choice of a step. -/
  turns : Nat
  /-- How many times the sampler has been read: the index of the next free sample. -/
  reads : Nat
deriving DecidableEq, Repr

/-- The oracle at power-on: nothing decided, both counters at 0 (DESIGN CHOICE, log entry 3). -/
def Oracle.initial : Oracle := { schedule := [], draws := [], turns := 0, reads := 0 }

/-- The state record `S` (10_state.md R20). -/
structure State where
  /-- True only between a start-streaming command and a stop or reset (R21). -/
  isStreaming : Bool
  /-- "A sample is due": set by the handler, cleared by CLEAR and by `stop()` (R22). -/
  sampleDue : Bool
  /-- OutputConfig's range (R24). -/
  range : Range
  /-- OutputConfig's waveform (R25). -/
  waveform : Wave
  /-- The Sampling Timer is running (R27). -/
  timerArmed : Bool
  /-- `onTimerInterrupt` is bound to the timer interrupt (R28). -/
  irqBound : Bool
  /-- The timer's own status flag, the pending interrupt request (R29). -/
  timerPending : Bool
  /-- MAIN's position (R31). -/
  phase : Phase
  /-- The Transport's inbound byte queue, head first (R32). -/
  rx : List Byte
  /-- The Transport's outbound byte log, append only (R33). -/
  tx : List Byte
  /-- The range the output generator holds (R34). -/
  afeRange : Range
  /-- The waveform the output generator holds (R34). -/
  afeWave : Wave
  /-- Every write made to the output generator, oldest first (R34). -/
  afeLog : List AfeWrite
  /-- The MODEL's own: what the environment decides. -/
  oracle : Oracle
deriving DecidableEq, Repr

/-- Why the machine stops. The block itself raises no exception, trap or fault (60_exceptions.md R200). -/
inductive Fault where
  /-- Raised by `stepEvent` when the event to perform is not enabled: a script that names it is ill-formed and is stuck,
  not skipped (30_encoding.md R81). Safe: no behaviour of the block is lost, for the block has no such step
  (43_dispatch_loop.md R185). -/
  | notEnabled (e : Event)
  /-- Raised by a script line `draw V` whose V does not fit the sampler's raw width, so that no `SamplerRead()` could
  return it (40_streaming_controller.md R106). Safe. -/
  | drawTooWide (v : Nat)
deriving DecidableEq, Repr

/-- Why a step gives an instruction no meaning. -/
inductive Refusal where
  /-- An instruction that has no meaning yet, by its mnemonic; raised only by an arm of `exec` (safe). No arm raises
  it: every command has its meaning. -/
  | notModelled (mnemonic : String)
deriving DecidableEq, Repr

/-- What a step answers. -/
abbrev Result := Host.Outcome State Fault Refusal

/-- Power-on (70_reset_and_hazards.md R230; 10_state.md R20). The output generator holds the parameter `P_AFE_INIT`,
and no AFE write has been made (92_eei_decisions.md D13). -/
def State.reset : State :=
  { isStreaming := false
    sampleDue := false
    range := .large
    waveform := .wave1
    timerArmed := false
    irqBound := false
    timerPending := false
    phase := .rxCheck
    rx := []
    tx := []
    afeRange := Config.afeInitRange
    afeWave := Config.afeInitWave
    afeLog := []
    oracle := .initial }

end Sys2Proof.Machine
end

