-- ==== Sys2Proof/Machine/Flags.lean ====
section
/-! DEFINITION. The flags of the block: the StreamingState pair, its queries, and the status word of 10_state.md R39. -/

namespace Sys2Proof.Machine

/-- `S.isStreaming <- b` (10_state.md R21). -/
def setStreaming (b : Bool) (s : State) : State := { s with isStreaming := b }

/-- `S.sampleDue <- b`, one indivisible store (10_state.md R22; 20_memory.md R55). -/
def setSampleDue (b : Bool) (s : State) : State := { s with sampleDue := b }

/-- The query `isStreaming()`, which writes nothing (40_streaming_controller.md R103). -/
def isStreamingNow (s : State) : Bool := s.isStreaming

/-- What TEST decides on: streaming, and a sample due (40_streaming_controller.md R105). -/
def sampleWanted (s : State) : Bool := isStreamingNow s && s.sampleDue

/-- Bit 2 of the status word: 0 = Small, 1 = Large (10_state.md R39). -/
def rangeBit : Range → Bool
  | .small => false
  | .large => true

/-- Bit 3 of the status word: 0 = Wave1, 1 = Wave2 (10_state.md R39). -/
def waveBit : Wave → Bool
  | .wave1 => false
  | .wave2 => true

/-- The packed status word `SW` (10_state.md R39): notation of the test vectors, not a register of the block. Bit 0 is
`isStreaming`; bit 7 is always 0. -/
def statusWord (s : State) : BitVec 8 :=
  BitVec.ofBool false ++ BitVec.ofBool s.timerPending ++ BitVec.ofBool s.irqBound ++ BitVec.ofBool s.timerArmed ++
    BitVec.ofBool (waveBit s.waveform) ++ BitVec.ofBool (rangeBit s.range) ++ BitVec.ofBool s.sampleDue ++
    BitVec.ofBool s.isStreaming

end Sys2Proof.Machine
end

