-- ==== Sys2Proof/Machine/Operands.lean ====
section
/-! DEFINITION. The operand forms: the Sample and its two bytes (30_encoding.md R83; 42_packet_encoder.md R160, R161)
and the selectors of the setters (30_encoding.md R80). The only other operand, the byte of `Unknown(c)`, is used whole
and unextended (R83). -/

namespace Sys2Proof.Machine

/-- `raw mod 2^16`: bits 16 and above are dropped silently (42_packet_encoder.md R161). -/
def sampleOfRaw (raw : Nat) : Sample := BitVec.ofNat 16 raw

/-- `v[15:8]` (30_encoding.md R83). -/
def sampleHigh (v : Sample) : Byte := v.extractLsb' 8 8

/-- `v[7:0]` (30_encoding.md R83). -/
def sampleLow (v : Sample) : Byte := v.extractLsb' 0 8

/-- What a selector value given to the range setter says: one of the two valid codes, or a value outside the
enumeration (30_encoding.md R80). -/
inductive RangeSelector where
  /-- `P_RANGE_CODE_SMALL`. -/
  | codeSmall
  /-- `P_RANGE_CODE_LARGE`. -/
  | codeLarge
  /-- Any other value. -/
  | outside (code : Nat)
deriving DecidableEq, Repr

/-- What a selector value given to the waveform setter says (30_encoding.md R80). -/
inductive WaveSelector where
  /-- `P_WAVE_CODE_1`. -/
  | code1
  /-- `P_WAVE_CODE_2`. -/
  | code2
  /-- Any other value. -/
  | outside (code : Nat)
deriving DecidableEq, Repr

/-- Reading a range selector value: valid iff it is one of the two codes (30_encoding.md R80). -/
def rangeSelector (code : Nat) : RangeSelector :=
  if code = Config.rangeCodeSmall then .codeSmall
  else if code = Config.rangeCodeLarge then .codeLarge
  else .outside code

/-- Reading a waveform selector value: valid iff it is one of the two codes (30_encoding.md R80). -/
def waveSelector (code : Nat) : WaveSelector :=
  if code = Config.waveCode1 then .code1
  else if code = Config.waveCode2 then .code2
  else .outside code

end Sys2Proof.Machine
end

