-- ==== Sys2Proof/Machine/Ops.lean ====
section
/-! DEFINITION. The channel primitives of 00_scope.md R8, each atomic and never failing, the sequencing of outcomes,
and the entry to and return from the interrupt context (60_exceptions.md R204, R205). The block has no addressable
memory (20_memory.md R50) and raises no exception (60_exceptions.md R200): interrupt delivery is all there is of either. -/

namespace Sys2Proof.Machine

/-- Go on with `f` from the next state; a stop stays a stop. -/
def andThen (r : Result) (f : State → Result) : Result :=
  match r with
  | .next s => f s
  | .fault e => .fault e
  | .refused e => .refused e

/-- `S.phase <- p` (10_state.md R31). -/
def setPhase (p : Phase) (s : State) : State := { s with phase := p }

/-! ### RX and TX (20_memory.md R50, R54, R61, R62) -/

/-- `RxAvailable()`: the number of entries of `S.rx`. -/
def rxAvailable (s : State) : Nat := s.rx.length

/-- `S.rx` without its head: what `RxPop()` leaves. -/
def rxDrop (s : State) : State := { s with rx := s.rx.tail }

/-- `RxPop()`: the head of `S.rx` and the state without it; nothing when `RxAvailable() = 0` (20_memory.md R56). -/
def rxPop (s : State) : Option (Byte × State) := s.rx.head?.map fun c => (c, rxDrop s)

/-- The host's append of one byte: `S.rx <- S.rx ++ [b]` (43_dispatch_loop.md R184). -/
def rxAppend (b : Byte) (s : State) : State := { s with rx := s.rx ++ [b] }

/-- `TxAppend(bs)`: `S.tx <- S.tx ++ bs`, one whole packet (20_memory.md R54). -/
def txAppend (bs : List Byte) (s : State) : State := { s with tx := s.tx ++ bs }

/-! ### SAMPLER -/

/-- The value the next `SamplerRead()` returns: the one already drawn, else the free draw cut to `P_RAW_WIDTH` bits
(40_streaming_controller.md R106; log entry 2). -/
def samplerValue (s : State) : Nat :=
  match s.oracle.draws with
  | v :: _ => v
  | [] => Config.rawSample s.oracle.reads % 2 ^ Config.rawWidth

/-- What a read of the sampler uses up: one draw. No field of the spec's record changes (10_state.md R35). -/
def samplerAdvance (s : State) : State :=
  { s with oracle := { s.oracle with draws := s.oracle.draws.tail, reads := s.oracle.reads + 1 } }

/-- `SamplerRead()`: a value and the state after the read (00_scope.md R8; 20_memory.md R56). -/
def samplerRead (s : State) : Nat × State := (samplerValue s, samplerAdvance s)

/-! ### AFEOUT: every write is logged (10_state.md R34) -/

/-- `AfeSetRange(r)`. -/
def afeSetRange (r : Range) (s : State) : State :=
  { s with afeRange := r, afeLog := s.afeLog ++ [.setRange r] }

/-- `AfeSelectWave(w)`. -/
def afeSelectWave (w : Wave) (s : State) : State :=
  { s with afeWave := w, afeLog := s.afeLog ++ [.selectWave w] }

/-! ### TIMERCTL and IRQ -/

/-- `TimerArm()`. -/
def timerArm (s : State) : State := { s with timerArmed := true }

/-- `TimerDisarm()`: also clears the request (92_eei_decisions.md D6). -/
def timerDisarm (s : State) : State := { s with timerArmed := false, timerPending := false }

/-- The tick's store: `S.timerPending <- true` (60_exceptions.md R202). -/
def timerRaise (s : State) : State := { s with timerPending := true }

/-- `TimerAck()`: `S.timerPending <- false`. -/
def timerAck (s : State) : State := { s with timerPending := false }

/-- `IrqBind()`. -/
def irqBind (s : State) : State := { s with irqBound := true }

/-- `IrqUnbind()`. -/
def irqUnbind (s : State) : State := { s with irqBound := false }

/-! ### Entering and leaving the interrupt context -/

/-- Interrupt entry saves no architectural state and changes no field: no vector, stack, mode or mask exists
(60_exceptions.md R204). -/
def interruptEntry (s : State) : State := s

/-- Return from the interrupt: MAIN resumes at the same phase; nothing is restored, for entry changed nothing
(60_exceptions.md R205). -/
def interruptReturn (s : State) : State := s

/-- Taking the interrupt: entry, the handler's one atomic step, return (60_exceptions.md R203 to R206). -/
def takeInterrupt (handler : State → State) (s : State) : State :=
  interruptReturn (handler (interruptEntry s))

end Sys2Proof.Machine
end

