-- ==== Sys2Proof/Machine/OutputConfig.lean ====
section
/-! DEFINITION. The two validating setters of OutputConfig (41_command_processor.md R139 to R141). An accepted call
writes the field and the Analog Front End together, also when the value does not change (10_state.md R26); a selector
outside the enumeration is dropped silently. -/

namespace Sys2Proof.Machine

/-- An accepted range: the field, then the AFE, in one step (10_state.md R26). -/
def acceptRange (r : Range) (s : State) : State := afeSetRange r { s with range := r }

/-- An accepted waveform: the field, then the AFE, in one step (10_state.md R26). -/
def acceptWave (w : Wave) (s : State) : State := afeSelectWave w { s with waveform := w }

/-- `SetRange(sel)` (R139). -/
def setRange (sel : RangeSelector) (s : State) : State :=
  match sel with
  | .codeSmall => acceptRange .small s
  | .codeLarge => acceptRange .large s
  | .outside _ => s

/-- `SelectWave(sel)` (R140). -/
def selectWave (sel : WaveSelector) (s : State) : State :=
  match sel with
  | .code1 => acceptWave .wave1 s
  | .code2 => acceptWave .wave2 s
  | .outside _ => s

/-- The range setter as its interface has it, given a selector's numeric value (30_encoding.md R80). -/
def setRangeByCode (code : Nat) (s : State) : State := setRange (rangeSelector code) s

/-- The waveform setter as its interface has it, given a selector's numeric value (30_encoding.md R80). -/
def selectWaveByCode (code : Nat) (s : State) : State := selectWave (waveSelector code) s

end Sys2Proof.Machine
end

