-- ==== Sys2Proof/Machine/PacketEncoder.lean ====
section
/-! DEFINITION. The Packet Encoder (42_packet_encoder.md): three pure functions that build the byte string a caller hands
to `TxAppend`. -/

namespace Sys2Proof.Machine

/-- `P_SAMPLE_HDR` (00_scope.md R6; 30_encoding.md R76). -/
def sampleHeader : Byte := 0xA0#8

/-- `P_SAMPLE_TRL` (00_scope.md R6; 30_encoding.md R76). -/
def sampleTrailer : Byte := 0xC0#8

/-- `P_LINE_TERM`: CR and LF (00_scope.md R6; 30_encoding.md R78). UNVERIFIED: the spec gives the two byte values from
general knowledge (93_implementation_defined.md G3; log entry 12). -/
def lineTerm : List Byte := [0x0D#8, 0x0A#8]

/-- `P_ERROR_RENDER`: the offending byte as it is, for every byte, printable or not (00_scope.md R6; 92_eei_decisions.md
D8; 90_conflicts.md C2; log entry 11). -/
def errorRender (c : Byte) : List Byte := [c]

/-- `encodeSample(raw)`: the 4-byte frame, high byte first (R160). -/
def encodeSample (raw : Nat) : List Byte :=
  [sampleHeader, sampleHigh (sampleOfRaw raw), sampleLow (sampleOfRaw raw), sampleTrailer]

/-- `encodeConnection()`: the same literal on every call (R162). -/
def encodeConnection : List Byte := Config.connectReply

/-- `encodeError(c)`: prefix, offending byte, line terminator (R163). -/
def encodeError (c : Byte) : List Byte := Config.errorPrefix ++ errorRender c ++ lineTerm

end Sys2Proof.Machine
end

