-- ==== Sys2Proof/Machine/StreamingController.lean ====
section
/-! DEFINITION. The Streaming Controller's operations (40_streaming_controller.md): start, stop, reset, the interrupt
handler, and the three micro-steps of `produceSampleIfDue`. -/

namespace Sys2Proof.Machine

/-- `start()`: bind unless bound already, arm, set `isStreaming` (R100; 70_reset_and_hazards.md R237). -/
def startStreaming (s : State) : State :=
  setStreaming true (timerArm (if s.irqBound then s else irqBind s))

/-- `stop()`: disarm (which drops the request), unbind, clear both flags (R101; 60_exceptions.md R211). -/
def stopStreaming (s : State) : State :=
  setSampleDue false (setStreaming false (irqUnbind (timerDisarm s)))

/-- `reset()`: stop, then the default OutputConfig through the two setters, range first (R102; 92_eei_decisions.md
D12, log entry 13). -/
def resetController (s : State) : State :=
  selectWave .code1 (setRange .codeLarge (stopStreaming s))

/-- `onTimerInterrupt()`: mark a sample due and acknowledge the timer, in one atomic step (R104). -/
def onTimerInterrupt (s : State) : State := timerAck (setSampleDue true s)

/-- TEST (R105): the dispatcher's `isStreaming()` check and the test of `sampleDue`. -/
def testSample (s : State) : State :=
  if sampleWanted s then setPhase .emit s else setPhase .rxCheck s

/-- EMIT (R106): read one sample, send its packet. -/
def emitSample (s : State) : State :=
  let (raw, t) := samplerRead s
  setPhase .clear (txAppend (encodeSample raw) t)

/-- CLEAR (R107): the sample is consumed. -/
def clearSample (s : State) : State := setPhase .rxCheck (setSampleDue false s)

end Sys2Proof.Machine
end

