-- ==== Sys2Proof/Machine/CommandProcessor.lean ====
section
/-! DEFINITION. The meaning of each command (41_command_processor.md R131 to R138): what one arm of `handle(c)` does.
Each runs inside the atomic RX_CHECK micro-step and raises no exception. -/

namespace Sys2Proof.Machine

/-- Connect: send the connection reply, then `reset()` (R131). -/
def execConnect (s : State) : Result := .next (resetController (txAppend encodeConnection s))

/-- StartStreaming: `start()` (R132). -/
def execStartStreaming (s : State) : Result := .next (startStreaming s)

/-- StopStreaming: `stop()` (R133). -/
def execStopStreaming (s : State) : Result := .next (stopStreaming s)

/-- SelectWave1: `SelectWave(P_WAVE_CODE_1)` (R134). -/
def execSelectWave1 (s : State) : Result := .next (selectWave .code1 s)

/-- SelectWave2: `SelectWave(P_WAVE_CODE_2)` (R135). -/
def execSelectWave2 (s : State) : Result := .next (selectWave .code2 s)

/-- SelectRangeSmall: `SetRange(P_RANGE_CODE_SMALL)` (R136). -/
def execSelectRangeSmall (s : State) : Result := .next (setRange .codeSmall s)

/-- SelectRangeLarge: `SetRange(P_RANGE_CODE_LARGE)` (R137). -/
def execSelectRangeLarge (s : State) : Result := .next (setRange .codeLarge s)

/-- Unknown(c): send the error packet holding c; nothing else changes (R138). -/
def execUnknown (c : Byte) (s : State) : Result := .next (txAppend (encodeError c) s)

end Sys2Proof.Machine
end

