-- ==== Sys2Proof/Machine/Dispatch.lean ====
section
/-! DEFINITION. The case of `handle(c)` (41_command_processor.md R130): one arm per command, no wildcard. -/

namespace Sys2Proof.Machine

/-- What a command does to the state, apart from the pop of its byte and MAIN's phase (see `rxCheck`). -/
def exec (i : Instr) (s : State) : Host.Outcome State Fault Refusal :=
  match i with
  | .connect => Sys2Proof.Machine.execConnect s
  | .startStreaming => Sys2Proof.Machine.execStartStreaming s
  | .stopStreaming => Sys2Proof.Machine.execStopStreaming s
  | .selectWave1 => Sys2Proof.Machine.execSelectWave1 s
  | .selectWave2 => Sys2Proof.Machine.execSelectWave2 s
  | .selectRangeSmall => Sys2Proof.Machine.execSelectRangeSmall s
  | .selectRangeLarge => Sys2Proof.Machine.execSelectRangeLarge s
  | .unknown c => Sys2Proof.Machine.execUnknown c s

end Sys2Proof.Machine
end

