-- ==== Sys2Proof/Machine/DispatchLoop.lean ====
section
/-! DEFINITION. The Dispatch Loop and the step of each agent (43_dispatch_loop.md; 60_exceptions.md R202, R203): which
event is enabled, what performing it does, and which event the environment chooses next. -/

namespace Sys2Proof.Machine

/-- `handle(c)`: decode the byte and run its command to completion (41_command_processor.md R130). -/
def handle (c : Byte) (s : State) : Result := exec (decode c) s

/-- RX_CHECK (R181): consume at most one byte and run its whole command; then the sample check is next. -/
def rxCheck (s : State) : Result :=
  match rxPop s with
  | some (c, t) => andThen (handle c t) fun u => .next (setPhase .sampleCheck u)
  | none => .next (setPhase .sampleCheck s)

/-- One MAIN micro-step (R182). -/
def mainStep (s : State) : Result :=
  match s.phase with
  | .rxCheck => rxCheck s
  | .sampleCheck => .next (testSample s)
  | .emit => .next (emitSample s)
  | .clear => .next (clearSample s)

/-- Which step may be taken (R185): MAIN and HOST always, the tick while the timer is armed, the handler while a
request is pending and it is bound. -/
def enabled (e : Event) (s : State) : Bool :=
  match e with
  | .main => true
  | .tick => s.timerArmed
  | .isr => s.timerPending && s.irqBound
  | .rx _ => true

/-- What an enabled step does (R182, R184; 60_exceptions.md R202, R203). -/
def performEvent (e : Event) (s : State) : Result :=
  match e with
  | .main => mainStep s
  | .tick => .next (timerRaise s)
  | .isr => .next (takeInterrupt onTimerInterrupt s)
  | .rx b => .next (rxAppend b s)

/-- Perform an event, which must be enabled: one that is not is stuck, not skipped (30_encoding.md R81). -/
def stepEvent (e : Event) (s : State) : Result :=
  if enabled e s then performEvent e s else .fault (.notEnabled e)

/-- The step the environment takes next: the one already chosen, else the free choice `Config.turn`, which stands for a
choice among the enabled steps: where it names one that is not enabled, MAIN, which always is, steps (R185; log entry 1). -/
def nextEvent (s : State) : Event :=
  match s.oracle.schedule with
  | e :: _ => e
  | [] => if enabled (Config.turn s.oracle.turns) s then Config.turn s.oracle.turns else .main

/-- What a turn uses up of the oracle. No field of the spec's record changes. -/
def advanceTurn (s : State) : State :=
  { s with oracle := { s.oracle with schedule := s.oracle.schedule.tail, turns := s.oracle.turns + 1 } }

/-- One step of the block: the agent whose turn it is takes its step. -/
def takeTurn (s : State) : Result := stepEvent (nextEvent s) (advanceTurn s)

/-- The byte placed where RX_CHECK takes its next one, MAIN at RX_CHECK and next to step. -/
def placeByte (c : Byte) (s : State) : State :=
  { s with
    phase := .rxCheck
    rx := c :: s.rx
    oracle := { s.oracle with schedule := .main :: s.oracle.schedule } }

end Sys2Proof.Machine
end

