-- ==== Sys2Proof/Machine/Step.lean ====
section
/-! DEFINITION. One step of the machine, and how the host places a command to run next. -/

namespace Sys2Proof.Machine

/-- One step of the block: some agent's atomic step (43_dispatch_loop.md R185), which agent being what the oracle
says. -/
def step (s : State) : Host.Outcome State Fault Refusal := takeTurn s

/-- `s` with the command's byte at the head of the inbound queue, MAIN at RX_CHECK and MAIN's turn, so that the very
next step runs it (43_dispatch_loop.md R181; log entry 10). -/
def State.withFetchWord (s : State) (nbits w : Nat) : State :=
  placeByte (BitVec.ofNat 8 (w % 2 ^ nbits)) s

end Sys2Proof.Machine
end

