-- ==== Sys2Proof/Machine/Script.lean ====
section
/-! DEFINITION. Event scripts (30_encoding.md R81, R82): a list of lines, each performed in turn; a line that is not
enabled makes the script stuck. -/

namespace Sys2Proof.Machine

/-- Perform a list of events, one after the other. -/
def runEvents : List Event → State → Result
  | [], s => .next s
  | e :: es, s => andThen (stepEvent e s) (runEvents es)

/-- A value the sampler can return: it fits `P_RAW_WIDTH` bits, which are at least 16 (40_streaming_controller.md R106).
The first comparison decides every 16-bit value without the OPEN width. -/
def drawFits (v : Nat) : Bool := decide (v < 2 ^ 16) || decide (v < 2 ^ Config.rawWidth)

/-- Script line `draw V`: V comes after the draws already waiting (30_encoding.md R81; log entry 18). -/
def addDraw (v : Nat) (s : State) : Result :=
  if drawFits v then .next { s with oracle := { s.oracle with draws := s.oracle.draws ++ [v] } }
  else .fault (.drawTooWide v)

/-- MAIN micro-steps until the phase is RX_CHECK, at most `n` of them. -/
def mainUntilRxCheck : Nat → State → Result
  | 0, s => .next s
  | n + 1, s => if s.phase = .rxCheck then .next s else andThen (mainStep s) (mainUntilRxCheck n)

/-- `iter` (30_encoding.md R82): one MAIN micro-step, then more until the phase is back at RX_CHECK. Three more are
enough from every phase (43_dispatch_loop.md R180). -/
def iteration (s : State) : Result := andThen (mainStep s) (mainUntilRxCheck 3)

/-- One line of a script. -/
def runLine (l : ScriptLine) (s : State) : Result :=
  match l with
  | .event e => stepEvent e s
  | .draw v => addDraw v s
  | .fire => runEvents [.tick, .isr] s
  | .iter => iteration s
  | .send b => andThen (stepEvent (.rx b) s) iteration

/-- A whole script. -/
def runScript : List ScriptLine → State → Result
  | [], s => .next s
  | l :: ls, s => andThen (runLine l s) (runScript ls)

/-- `k` iterations with no step of another agent between them. -/
def iterations : Nat → State → Result
  | 0, s => .next s
  | k + 1, s => andThen (iteration s) (iterations k)

/-- `handle` each of these bytes to completion, in order: their commands alone, with no queue, no sample check and no
step of another agent between them (41_command_processor.md R130). -/
def handleAll : List Byte → State → Result
  | [], s => .next s
  | c :: cs, s => andThen (handle c s) (handleAll cs)

end Sys2Proof.Machine
end

