-- ==== Sys2Proof/WellFormed.lean ====
section
/-! DEFINITION. Which terms of the syntax stand for something the block can receive: `Unknown(c)` only for a byte c
that no recognised row matches (30_encoding.md R73), and which lists of rows stand for a configuration table
(30_encoding.md R71). -/

namespace Sys2Proof

/-- The default table recognises the byte (30_encoding.md R73). -/
def recognised (c : Byte) : Bool := (defaultTable.lookup c).isSome

/-- Some byte decodes to the command: every recognised command, and `Unknown(c)` exactly when no recognised row
matches c (30_encoding.md R73). -/
def Instr.wellFormed : Instr → Bool
  | .connect => true
  | .startStreaming => true
  | .stopStreaming => true
  | .selectWave1 => true
  | .selectWave2 => true
  | .selectRangeSmall => true
  | .selectRangeLarge => true
  | .unknown c => !recognised c

/-- The command is `Unknown` of some byte. -/
def Instr.isUnknown : Instr → Bool
  | .connect => false
  | .startStreaming => false
  | .stopStreaming => false
  | .selectWave1 => false
  | .selectWave2 => false
  | .selectRangeSmall => false
  | .selectRangeLarge => false
  | .unknown _ => true

/-- A list of rows is a configuration table: it lists no byte twice, and does not list `Unknown`, which stands for the
bytes it leaves out. DESIGN CHOICE, log entry 29: 00_scope.md R6 and 30_encoding.md R71 ask for a function from byte to
Command; how the model writes one down is its own. Two bytes may have the same command. -/
def CmdTable.wellFormed (table : CmdTable) : Bool :=
  decide (table.map Prod.fst).Nodup && table.all fun row => !row.2.isUnknown

/-- The table gives no command to two bytes. The spec does not ask this of a table, and this model does not either
(log entry 29): it is a premise of the one claim that needs it, that a byte can be told from its command. The default
table has it (30_encoding.md R72). -/
def CmdTable.namesOnce (table : CmdTable) : Bool := decide (table.map Prod.snd).Nodup

/-- The commands a table can express: those it lists, and `Unknown(c)` for the bytes c it does not list. -/
def CmdTable.expresses (table : CmdTable) (i : Instr) : Bool :=
  match i with
  | .unknown c => (table.lookup c).isNone
  | i => table.any fun row => row.2 == i

end Sys2Proof
end

