-- ==== Sys2Proof/Safety.lean ====
section
/-! DEFINITION. The terms claims are stated in: the step relation over every schedule and draw (43_dispatch_loop.md
R185), reachability from power-on, the invariants of 10_state.md, what a run hands in and sends out, and the infinite
runs that are fair (43_dispatch_loop.md R186). -/

namespace Sys2Proof.Machine

/-! ### The step relation -/

/-- `s` with another oracle: the same block, another environment. -/
def State.withOracle (s : State) (o : Oracle) : State := { s with oracle := o }

/-- The two states agree in every field of the spec's record (10_state.md R20). -/
abbrev SameBlock (s t : State) : Prop := s.withOracle t.oracle = t

/-- Every value the environment has drawn ahead is one `SamplerRead()` may return (40_streaming_controller.md R106). -/
abbrev Oracle.DrawsInRange (o : Oracle) : Prop := ∀ v ∈ o.draws, v < 2 ^ Config.rawWidth

/-- The step relation of the block (43_dispatch_loop.md R185): some enabled event, with whatever the environment
decides. -/
def StepsTo (s t : State) : Prop :=
  ∃ (o : Oracle) (e : Event), o.DrawsInRange ∧ enabled e s = true ∧ performEvent e (s.withOracle o) = .next t

/-- Reachable from power-on under some schedule and some draws. -/
inductive Reachable : State → Prop where
  | powerOn : Reachable State.reset
  | after {s t : State} : Reachable s → StepsTo s t → Reachable t

/-! ### Invariants -/

/-- 10_state.md R30: armed, bound and streaming go together, and a request is pending only while armed. -/
structure TimerFlagsAgree (s : State) : Prop where
  armed : s.timerArmed = s.isStreaming
  bound : s.irqBound = s.isStreaming
  pending : s.timerPending = true → s.timerArmed = true

/-- 10_state.md R23: a sample is due only while streaming. -/
def DueOnlyWhileStreaming (s : State) : Prop := s.sampleDue = true → s.isStreaming = true

/-- MAIN is between TEST and the end of CLEAR only while streaming with a sample due (40_streaming_controller.md R105
to R107). -/
def MidSampleOnlyWhenDue (s : State) : Prop :=
  s.phase = .emit ∨ s.phase = .clear → s.isStreaming = true ∧ s.sampleDue = true

/-- The range an AFE write carries, if it is a range write. -/
def AfeWrite.range? : AfeWrite → Option Range
  | .setRange r => some r
  | .selectWave _ => none

/-- The waveform an AFE write carries, if it is a waveform write. -/
def AfeWrite.wave? : AfeWrite → Option Wave
  | .setRange _ => none
  | .selectWave w => some w

/-- The last range written to the output generator. -/
def lastRange (log : List AfeWrite) : Option Range := (log.filterMap AfeWrite.range?).getLast?

/-- The last waveform written to the output generator. -/
def lastWave (log : List AfeWrite) : Option Wave := (log.filterMap AfeWrite.wave?).getLast?

/-- 10_state.md R26, R34: the output generator and OutputConfig both hold the last value written, and before any write
their power-on values. -/
structure AfeMirrored (s : State) : Prop where
  range : s.range = (lastRange s.afeLog).getD .large
  wave : s.waveform = (lastWave s.afeLog).getD .wave1
  afeRange : s.afeRange = (lastRange s.afeLog).getD Config.afeInitRange
  afeWave : s.afeWave = (lastWave s.afeLog).getD Config.afeInitWave

/-- The invariant of the block. -/
structure Inv (s : State) : Prop where
  flags : TimerFlagsAgree s
  due : DueOnlyWhileStreaming s
  mid : MidSampleOnlyWhenDue s
  mirror : AfeMirrored s
  draws : s.oracle.DrawsInRange

/-! ### What can be observed (10_state.md R38) -/

/-- What the host observes: the outbound log. -/
def hostView (s : State) : List Byte := s.tx

/-- What the Analog Front End's output generator observes: its two settings and every write made to it. -/
def afeView (s : State) : Range × Wave × List AfeWrite := (s.afeRange, s.afeWave, s.afeLog)

/-! ### What a run hands in, consumes and sends -/

/-- The bytes an event brings in (43_dispatch_loop.md R184). -/
def bytesIn : Event → List Byte
  | .main => []
  | .tick => []
  | .isr => []
  | .rx b => [b]

/-- The byte an event consumes: RX_CHECK takes at most one (43_dispatch_loop.md R181). -/
def handledBy (e : Event) (s : State) : List Byte :=
  if e = .main ∧ s.phase = .rxCheck then s.rx.take 1 else []

/-- What a command sends (41_command_processor.md R142). -/
def replyTo : Instr → List Byte
  | .connect => encodeConnection
  | .startStreaming => []
  | .stopStreaming => []
  | .selectWave1 => []
  | .selectWave2 => []
  | .selectRangeSmall => []
  | .selectRangeLarge => []
  | .unknown c => encodeError c

/-- What an event sends: the replies to the bytes it handles, or the packet of EMIT. -/
def sentBy (e : Event) (s : State) : List Byte :=
  if e = .main ∧ s.phase = .emit then encodeSample (samplerValue s)
  else (handledBy e s).flatMap fun c => replyTo (decode c)

/-- Gather what each event of a run does, in order, as long as the run goes on. -/
def gather {α : Type} (f : Event → State → List α) : List Event → State → List α
  | [], _ => []
  | e :: es, s =>
    f e s ++
      match stepEvent e s with
      | .next t => gather f es t
      | .fault _ => []
      | .refused _ => []

/-- One mark for each handler invocation, a firing (00_scope.md glossary). -/
def firingMark (e : Event) (_ : State) : List Unit := if e = .isr then [()] else []

/-- One mark for each TEST that reads `sampleDue = true` while streaming (95_test_vectors.md, K1 to K7: "true calls"). -/
def trueTestMark (e : Event) (s : State) : List Unit :=
  if e = .main ∧ s.phase = .sampleCheck ∧ sampleWanted s = true then [()] else []

/-- One mark for each sample packet sent (EMIT). -/
def sampleMark (e : Event) (s : State) : List Unit :=
  if e = .main ∧ s.phase = .emit then [()] else []

/-! ### Infinite runs -/

/-- An infinite run: at each instant one enabled event is performed, the environment deciding freely. -/
def InfiniteRun (event : Nat → Event) (state : Nat → State) : Prop :=
  ∀ n, ∃ o : Oracle, o.DrawsInRange ∧ enabled (event n) (state n) = true ∧
    performEvent (event n) ((state n).withOracle o) = .next (state (n + 1))

/-- 43_dispatch_loop.md R186: MAIN steps for ever; the timer ticks for ever if it stays armed; the handler runs if it
stays enabled. Nothing is asked of HOST. -/
structure Fair (event : Nat → Event) (state : Nat → State) : Prop where
  main : ∀ n, ∃ m, n ≤ m ∧ event m = .main
  timer : (∃ n, ∀ m, n ≤ m → (state m).timerArmed = true) → ∀ n, ∃ m, n ≤ m ∧ event m = .tick
  handler : ∀ n, (∀ m, n ≤ m → enabled .isr (state m) = true) → ∃ m, n ≤ m ∧ event m = .isr

/-- The bytes an infinite run handles from instant `n` on, for `k` instants. -/
def handledFrom (event : Nat → Event) (state : Nat → State) (n k : Nat) : List Byte :=
  (List.range k).flatMap fun j => handledBy (event (n + j)) (state (n + j))

/-- Nothing stops the block: every enabled event takes it to a next state (60_exceptions.md R200). -/
def NeverStops (s : State) : Prop := ∀ e, enabled e s = true → ∃ t, performEvent e s = .next t

end Sys2Proof.Machine
end

