-- ==== Sys2Proof/Certificates/Slice0/Obligations.lean ====
section
/-! DEFINITION. The statements about the model, for the provers: each is a `Prop` and nothing here is proved. A statement
about a meaning gives the whole next state, so that every field it does not name is unchanged. -/

open Sys2Proof Sys2Proof.Machine

/-! ### Decoding and encoding -/

/-- 30_encoding.md R72: the default table, byte by byte; matching is exact, and any other byte is Unknown. The spec marks
the byte values "from general knowledge, not in source" (log entry 12). -/
def Obligations.DefaultTableDecodesEachByte : Prop :=
  ∀ c : Byte, decode c =
    if c = 0x76#8 then .connect
    else if c = 0x62#8 then .startStreaming
    else if c = 0x73#8 then .stopStreaming
    else if c = 0x65#8 then .selectWave1
    else if c = 0x66#8 then .selectWave2
    else if c = 0x74#8 then .selectRangeSmall
    else if c = 0x79#8 then .selectRangeLarge
    else .unknown c

/-- 30_encoding.md R73, which the spec marks as derived from R72: the bytes that decode to Unknown, by their ranges; there
are 249; each emits the error packet that carries it. -/
def Obligations.UnrecognisedBytesAreUnknown : Prop :=
  (∀ c : Byte, decode c = .unknown c ↔
    (c.toNat ≤ 0x61 ∨ (0x63 ≤ c.toNat ∧ c.toNat ≤ 0x64) ∨ (0x67 ≤ c.toNat ∧ c.toNat ≤ 0x72) ∨ c.toNat = 0x75 ∨
      (0x77 ≤ c.toNat ∧ c.toNat ≤ 0x78) ∨ 0x7A ≤ c.toNat)) ∧
  ((List.range 256).filter fun n => (decode (BitVec.ofNat 8 n)).isUnknown).length = 249 ∧
  ∀ (c : Byte) (s : State), decode c = .unknown c →
    handle c s = .next { s with tx := s.tx ++ (Config.errorPrefix ++ [c] ++ [0x0D#8, 0x0A#8]) }

/-- 30_encoding.md R71, R75: decode and encode agree for EVERY configuration table, so that a byte the table does not list
is Unknown and carries itself; and where no command has two bytes, the command of a byte is encoded as that byte. How a
table is written down is the model's DESIGN CHOICE (log entry 29). -/
def Obligations.EveryTableDecodesWhatItEncodes : Prop :=
  ∀ table : CmdTable, CmdTable.wellFormed table = true →
    (∀ i : Instr, CmdTable.expresses table i = true →
      ∃ c, encodeWith table i = some c ∧ decodeWith table c = i) ∧
    (∀ c : Byte, CmdTable.expresses table (decodeWith table c) = true) ∧
    (CmdTable.namesOnce table = true → ∀ c : Byte, encodeWith table (decodeWith table c) = some c) ∧
    (∀ c : Byte, (∀ row ∈ table, row.1 ≠ c) → decodeWith table c = .unknown c)

/-- 30_encoding.md R75: every command is one byte. Whatever bytes follow, the first byte alone gives the command and the
bytes after it are left as they are; and a well-formed command's own byte decodes to it. -/
def Obligations.CommandBytesDecodeToTheCommand : Prop :=
  (∀ (c : Byte) (rest : List Byte), decodeBytes (c :: rest) = .command (decode c) rest) ∧
  ∀ (i : Instr) (rest : List Byte), i.wellFormed = true →
    (encode i).length = 1 ∧ decodeBytes (encode i ++ rest) = .command i rest

/-! ### The commands -/

/-- 41_command_processor.md R131: Connect sends the connection reply and resets, from every state. -/
def Obligations.ConnectRepliesAndResets : Prop :=
  (∀ c : Byte, decode c = .connect ↔ c = 0x76#8) ∧
  (∀ s : State, exec .connect s = .next
    { s with
      tx := s.tx ++ Config.connectReply
      isStreaming := false
      sampleDue := false
      timerArmed := false
      irqBound := false
      timerPending := false
      range := .large
      waveform := .wave1
      afeRange := .large
      afeWave := .wave1
      afeLog := s.afeLog ++ [.setRange .large, .selectWave .wave1] }) ∧
  -- the TEST of the same iteration sends no packet
  ∀ (s : State) (rest : List Byte), s.phase = .rxCheck → s.rx = 0x76#8 :: rest →
    ∃ t, runEvents [.main, .main] s = .next t ∧ t.phase = .rxCheck ∧ t.rx = rest ∧
      t.tx = s.tx ++ Config.connectReply ∧ t.isStreaming = false

/-- 41_command_processor.md R132, 40_streaming_controller.md R100: StartStreaming binds, arms and sets `isStreaming`;
already streaming, the state keeps every field. -/
def Obligations.StartStreamingArmsBindsAndStreams : Prop :=
  (∀ c : Byte, decode c = .startStreaming ↔ c = 0x62#8) ∧
  (∀ s : State, exec .startStreaming s = .next
    { s with irqBound := true, timerArmed := true, isStreaming := true }) ∧
  (∀ s : State, exec .startStreaming s = .next (startStreaming s)) ∧
  -- streaming starts with nothing due
  (∀ s : State, DueOnlyWhileStreaming s → s.isStreaming = false →
    ∃ t, exec .startStreaming s = .next t ∧ t.sampleDue = false) ∧
  ∀ s : State, TimerFlagsAgree s → s.isStreaming = true → exec .startStreaming s = .next s

/-- 41_command_processor.md R133, 40_streaming_controller.md R101: StopStreaming disarms, unbinds, drops the request
and clears both flags, sending nothing; when not streaming the state keeps every field. -/
def Obligations.StopStreamingDiscardsDueAndPending : Prop :=
  (∀ c : Byte, decode c = .stopStreaming ↔ c = 0x73#8) ∧
  (∀ s : State, exec .stopStreaming s = .next
    { s with timerArmed := false, timerPending := false, irqBound := false, isStreaming := false, sampleDue := false }) ∧
  (∀ s : State, exec .stopStreaming s = .next (stopStreaming s)) ∧
  (∀ s : State, TimerFlagsAgree s → DueOnlyWhileStreaming s → s.isStreaming = false →
    exec .stopStreaming s = .next s) ∧
  -- after stop() no handler invocation can occur until the next start
  (∀ (s t : State) (es : List Event), runEvents es (stopStreaming s) = .next t →
    (∀ c ∈ gather handledBy es (stopStreaming s), decode c ≠ .startStreaming) → enabled .isr t = false) ∧
  -- a start followed at once by a stop leaves both flags false
  ∀ s : State, ∃ t, andThen (exec .startStreaming s) (exec .stopStreaming) = .next t ∧
    t.sampleDue = false ∧ t.isStreaming = false

/-- 41_command_processor.md R134: SelectWave1 writes the field and the AFE, every time. -/
def Obligations.SelectWave1WritesFieldAndAfe : Prop :=
  (∀ c : Byte, decode c = .selectWave1 ↔ c = 0x65#8) ∧
  ∀ s : State, exec .selectWave1 s = .next (selectWaveByCode Config.waveCode1 s) ∧
    exec .selectWave1 s = .next
      { s with waveform := .wave1, afeWave := .wave1, afeLog := s.afeLog ++ [.selectWave .wave1] }

/-- 41_command_processor.md R135: SelectWave2 writes the field and the AFE, every time. -/
def Obligations.SelectWave2WritesFieldAndAfe : Prop :=
  (∀ c : Byte, decode c = .selectWave2 ↔ c = 0x66#8) ∧
  ∀ s : State, exec .selectWave2 s = .next (selectWaveByCode Config.waveCode2 s) ∧
    exec .selectWave2 s = .next
      { s with waveform := .wave2, afeWave := .wave2, afeLog := s.afeLog ++ [.selectWave .wave2] }

/-- 41_command_processor.md R136: SelectRangeSmall writes the field and the AFE, every time. -/
def Obligations.SelectRangeSmallWritesFieldAndAfe : Prop :=
  (∀ c : Byte, decode c = .selectRangeSmall ↔ c = 0x74#8) ∧
  ∀ s : State, exec .selectRangeSmall s = .next (setRangeByCode Config.rangeCodeSmall s) ∧
    exec .selectRangeSmall s = .next
      { s with range := .small, afeRange := .small, afeLog := s.afeLog ++ [.setRange .small] }

/-- 41_command_processor.md R137: SelectRangeLarge writes the field and the AFE, every time; `'t'` then `'y'` writes
the AFE range twice and ends at Large. -/
def Obligations.SelectRangeLargeWritesFieldAndAfe : Prop :=
  (∀ c : Byte, decode c = .selectRangeLarge ↔ c = 0x79#8) ∧
  (∀ s : State, exec .selectRangeLarge s = .next (setRangeByCode Config.rangeCodeLarge s) ∧
    exec .selectRangeLarge s = .next
      { s with range := .large, afeRange := .large, afeLog := s.afeLog ++ [.setRange .large] }) ∧
  ∀ s : State, andThen (exec .selectRangeSmall s) (exec .selectRangeLarge) = .next
      { s with range := .large, afeRange := .large, afeLog := s.afeLog ++ [.setRange .small, .setRange .large] }

/-- 41_command_processor.md R138: Unknown(c) sends the error packet and changes nothing else, for every byte c outside
the recognised set, printable or not. -/
def Obligations.UnknownSendsOneErrorPacket : Prop :=
  (∀ c : Byte, decode c = .unknown c ↔
    c ≠ 0x76#8 ∧ c ≠ 0x62#8 ∧ c ≠ 0x73#8 ∧ c ≠ 0x65#8 ∧ c ≠ 0x66#8 ∧ c ≠ 0x74#8 ∧ c ≠ 0x79#8) ∧
  (∀ (c : Byte) (s : State), exec (.unknown c) s = .next
    { s with tx := s.tx ++ (Config.errorPrefix ++ [c] ++ [0x0D#8, 0x0A#8]) }) ∧
  ∀ (s : State) (c : Byte) (rest : List Byte), s.phase = .rxCheck → s.rx = c :: rest → decode c = .unknown c →
    s.isStreaming = true → s.sampleDue = true → ∃ t, runEvents [.main, .main] s = .next t ∧ t.phase = .emit

/-- 41_command_processor.md R142, which the spec marks as derived from R131 to R138: only Connect and Unknown send
bytes. -/
def Obligations.OnlyConnectAndUnknownSendBytes : Prop :=
  ∀ (i : Instr) (s : State), ∃ t, exec i s = .next t ∧
    (i ≠ .connect → i.isUnknown = false → t.tx = s.tx)

/-- 41_command_processor.md R143, which the spec marks as derived: which group of fields each command leaves alone. StreamingState, the timer and the
binding are one group; OutputConfig and the AFE the other. -/
def Obligations.CommandsAreIndependent : Prop :=
  (∀ (i : Instr) (s : State), i = .selectWave1 ∨ i = .selectWave2 ∨ i = .selectRangeSmall ∨ i = .selectRangeLarge →
    ∃ t, exec i s = .next t ∧ t.isStreaming = s.isStreaming ∧ t.sampleDue = s.sampleDue ∧
      t.timerArmed = s.timerArmed ∧ t.irqBound = s.irqBound ∧ t.timerPending = s.timerPending) ∧
  (∀ (i : Instr) (s : State), i = .startStreaming ∨ i = .stopStreaming →
    ∃ t, exec i s = .next t ∧ t.range = s.range ∧ t.waveform = s.waveform ∧ t.afeRange = s.afeRange ∧
      t.afeWave = s.afeWave ∧ t.afeLog = s.afeLog) ∧
  (∀ (c : Byte) (s : State), ∃ t, exec (.unknown c) s = .next t ∧ { t with tx := s.tx } = s) ∧
  ∃ s t : State, exec .connect s = .next t ∧ t.isStreaming ≠ s.isStreaming ∧ t.sampleDue ≠ s.sampleDue ∧
    t.timerArmed ≠ s.timerArmed ∧ t.irqBound ≠ s.irqBound ∧ t.timerPending ≠ s.timerPending ∧ t.range ≠ s.range ∧
    t.waveform ≠ s.waveform ∧ t.afeRange ≠ s.afeRange ∧ t.afeWave ≠ s.afeWave ∧ t.afeLog ≠ s.afeLog

/-! ### The setters -/

/-- 30_encoding.md R80: a selector is valid iff it is one of the two codes of its setter, and the two codes differ. -/
def Obligations.SelectorsAreValidIffListed : Prop :=
  Config.rangeCodeSmall ≠ Config.rangeCodeLarge ∧ Config.waveCode1 ≠ Config.waveCode2 ∧
  (∀ code, rangeSelector code = .codeSmall ↔ code = Config.rangeCodeSmall) ∧
  (∀ code, rangeSelector code = .codeLarge ↔ code = Config.rangeCodeLarge) ∧
  (∀ code, waveSelector code = .code1 ↔ code = Config.waveCode1) ∧
  ∀ code, waveSelector code = .code2 ↔ code = Config.waveCode2

/-- 41_command_processor.md R139: the range setter, for every selector value. -/
def Obligations.RangeSetterWritesValidCodesOnly : Prop :=
  ∀ (code : Nat) (s : State), setRangeByCode code s =
    if code = Config.rangeCodeSmall then
      { s with range := .small, afeRange := .small, afeLog := s.afeLog ++ [.setRange .small] }
    else if code = Config.rangeCodeLarge then
      { s with range := .large, afeRange := .large, afeLog := s.afeLog ++ [.setRange .large] }
    else s

/-- 41_command_processor.md R140: the waveform setter, for every selector value. -/
def Obligations.WaveSetterWritesValidCodesOnly : Prop :=
  ∀ (code : Nat) (s : State), selectWaveByCode code s =
    if code = Config.waveCode1 then
      { s with waveform := .wave1, afeWave := .wave1, afeLog := s.afeLog ++ [.selectWave .wave1] }
    else if code = Config.waveCode2 then
      { s with waveform := .wave2, afeWave := .wave2, afeLog := s.afeLog ++ [.selectWave .wave2] }
    else s

/-- 41_command_processor.md R141: an invalid selector is dropped without a trace, while an inbound byte that is no
command does get an error reply. -/
def Obligations.InvalidSelectorsAreDroppedSilently : Prop :=
  (∀ (code : Nat) (s : State), code ≠ Config.rangeCodeSmall → code ≠ Config.rangeCodeLarge →
    setRangeByCode code s = s) ∧
  (∀ (code : Nat) (s : State), code ≠ Config.waveCode1 → code ≠ Config.waveCode2 →
    selectWaveByCode code s = s) ∧
  ∀ (c : Byte) (s : State), recognised c = false →
    handle c s = .next { s with tx := s.tx ++ encodeError c }

/-! ### The Streaming Controller -/

/-- 40_streaming_controller.md R102: `reset()` from every prior state, as stop() and the two setters in order. -/
def Obligations.ControllerResetRestoresDefaults : Prop :=
  ∀ s : State,
    resetController s =
      selectWaveByCode Config.waveCode1 (setRangeByCode Config.rangeCodeLarge (stopStreaming s)) ∧
    resetController s =
      { s with
        timerArmed := false
        timerPending := false
        irqBound := false
        isStreaming := false
        sampleDue := false
        range := .large
        afeRange := .large
        waveform := .wave1
        afeWave := .wave1
        afeLog := s.afeLog ++ [.setRange .large, .selectWave .wave1] }

/-- 60_exceptions.md R203, 40_streaming_controller.md R104: when the handler may run, and what it does: the sample is
marked due and the timer acknowledged, in one step, at whatever phase MAIN is. While not streaming it cannot run. -/
def Obligations.HandlerMarksDueAndAcknowledges : Prop :=
  (∀ s : State, enabled .isr s = true ↔ s.timerPending = true ∧ s.irqBound = true) ∧
  (∀ s : State, s.timerPending = true → s.irqBound = true →
    stepEvent .isr s = .next { s with sampleDue := true, timerPending := false }) ∧
  ∀ s : State, TimerFlagsAgree s → s.isStreaming = false → enabled .isr s = false

/-- 60_exceptions.md R202: the tick may occur exactly while the timer is armed; it raises the request, and a second one
changes nothing. -/
def Obligations.TickRaisesTheRequestWhileArmed : Prop :=
  (∀ s : State, enabled .tick s = true ↔ s.timerArmed = true) ∧
  (∀ s : State, s.timerArmed = true → stepEvent .tick s = .next { s with timerPending := true }) ∧
  ∀ s : State, s.timerArmed = true → s.timerPending = true → stepEvent .tick s = .next s

/-- 43_dispatch_loop.md R184: HOST appends any byte in every state and touches nothing else. -/
def Obligations.HostAppendsAtTheTail : Prop :=
  ∀ (b : Byte) (s : State), stepEvent (.rx b) s = .next { s with rx := s.rx ++ [b] }

/-- 40_streaming_controller.md R105: TEST moves MAIN to EMIT exactly when streaming with a sample due, and changes
nothing but the phase. -/
def Obligations.TestSelectsEmitWhenDue : Prop :=
  ∀ s : State, s.phase = .sampleCheck →
    (s.isStreaming = true ∧ s.sampleDue = true → mainStep s = .next { s with phase := .emit }) ∧
    (s.isStreaming = false ∨ s.sampleDue = false → mainStep s = .next { s with phase := .rxCheck })

/-- 40_streaming_controller.md R106: EMIT reads one sample and sends its packet. Whatever the environment is, the value
lies below 2^P_RAW_WIDTH; and every such value is the draw of some environment. The oracle is the model's way to hold the
free draw (DESIGN CHOICE, log entry 2). -/
def Obligations.EmitSendsOneDrawnSample : Prop :=
  (∀ s : State, s.phase = .emit → s.oracle.DrawsInRange →
    ∃ raw o, raw < 2 ^ Config.rawWidth ∧ o.reads = s.oracle.reads + 1 ∧
      mainStep s = .next { s with tx := s.tx ++ encodeSample raw, phase := .clear, oracle := o }) ∧
  ∀ (s : State) (raw : Nat), s.phase = .emit → raw < 2 ^ Config.rawWidth →
    ∃ o t, o.DrawsInRange ∧ mainStep (s.withOracle o) = .next t ∧
      t.tx = s.tx ++ encodeSample raw ∧ t.phase = .clear

/-- 40_streaming_controller.md R107: CLEAR consumes the sample and ends the iteration, whatever firings came before it.
While streaming, a firing after it is seen by the next TEST, unless the byte handled between them is StopStreaming's or
Connect's, which discards it (60_exceptions.md R207 (a)). -/
def Obligations.ClearConsumesTheSample : Prop :=
  (∀ s : State, s.phase = .clear → mainStep s = .next { s with sampleDue := false, phase := .rxCheck }) ∧
  ∀ s : State, s.phase = .clear → s.isStreaming = true → s.irqBound = true → s.timerPending = true →
    (∀ c rest, s.rx = c :: rest → decode c ≠ .stopStreaming ∧ decode c ≠ .connect) →
    ∃ t, runEvents [.main, .isr, .main, .main] s = .next t ∧ t.phase = .emit

/-! ### The Packet Encoder -/

/-- 42_packet_encoder.md R160, 30_encoding.md R76: the 4-byte frame of every raw value, high byte first. -/
def Obligations.SamplePacketIsBigEndianFrame : Prop :=
  (∀ raw : Nat, encodeSample raw =
    [0xA0#8, BitVec.ofNat 8 (raw % 2 ^ 16 / 2 ^ 8), BitVec.ofNat 8 (raw % 2 ^ 8), 0xC0#8]) ∧
  encodeSample 0x1234 = [0xA0#8, 0x12#8, 0x34#8, 0xC0#8]

/-- 42_packet_encoder.md R161: bits 16 and above are dropped silently, and nothing else is lost: two raw values share a
packet exactly when they agree modulo 2^16. -/
def Obligations.SamplePacketKeepsExactlySixteenBits : Prop :=
  (∀ a b : Nat, encodeSample a = encodeSample b ↔ a % 2 ^ 16 = b % 2 ^ 16) ∧
  ∀ raw : Nat, raw < 2 ^ 16 →
    ∃ hi lo : Byte, encodeSample raw = [0xA0#8, hi, lo, 0xC0#8] ∧ hi.toNat * 2 ^ 8 + lo.toNat = raw

/-- 42_packet_encoder.md R163: the error reply of each of the 256 bytes. -/
def Obligations.ErrorReplyCarriesTheRawByte : Prop :=
  ∀ c : Byte, encodeError c = Config.errorPrefix ++ [c] ++ [0x0D#8, 0x0A#8] ∧
    (encodeError c).length = Config.errorPrefix.length + 3

/-! ### The Dispatch Loop and the step -/

/-- 43_dispatch_loop.md R181: RX_CHECK pops at most one byte, runs its whole command, and goes on to the sample check;
with nothing queued only the phase changes. -/
def Obligations.RxCheckRunsAtMostOneCommand : Prop :=
  (∀ s : State, s.phase = .rxCheck → s.rx = [] → mainStep s = .next { s with phase := .sampleCheck }) ∧
  ∀ (s t : State) (c : Byte) (rest : List Byte), s.phase = .rxCheck → s.rx = c :: rest →
    exec (decode c) { s with rx := rest } = .next t → mainStep s = .next { t with phase := .sampleCheck }

/-- 43_dispatch_loop.md R181, R185: when it is MAIN's turn at RX_CHECK and the queue's head c decodes to a command, the
step of the machine is `exec` of that command on the state without c, with the turn used up, and then the phase
SAMPLE_CHECK. Whose turn it is, and what a turn uses up, is the model's oracle (DESIGN CHOICE, log entry 1). -/
def Obligations.StepRunsTheDecodedCommand : Prop :=
  ∀ (s : State) (c : Byte) (rest : List Byte) (i : Instr), nextEvent s = .main → s.phase = .rxCheck →
    s.rx = c :: rest → decode c = i →
    i.wellFormed = true ∧
    step s = andThen (exec i { advanceTurn s with rx := rest }) fun t => .next { t with phase := .sampleCheck }

/-- 43_dispatch_loop.md R182, 60_exceptions.md R200: MAIN's step is total; no enabled event stops the block, and no
event of any agent is refused. -/
def Obligations.EnabledEventsNeverStop : Prop :=
  ∀ s : State, NeverStops s ∧ (∃ t, mainStep s = .next t) ∧ ∀ e r, stepEvent e s ≠ .refused r

/-- The machine stops on one ground only, a script's event that is not enabled (30_encoding.md R81), and it names that
event; with no script it never stops (43_dispatch_loop.md R182, R188). The stop as a fault, and the oracle, are the
model's (log entries 9 and 1). -/
def Obligations.StepStopsOnlyOnEventsNotEnabled : Prop :=
  ∀ s : State,
    (∀ r, step s ≠ .refused r) ∧
    (∀ f, step s = .fault f ↔
      ∃ e es, s.oracle.schedule = e :: es ∧ enabled e s = false ∧ f = .notEnabled e) ∧
    (s.oracle.schedule = [] → ∃ t, step s = .next t)

/-- 43_dispatch_loop.md R185: the step of the machine, over all environments, is the block's step relation: the union of
the enabled steps of the four agents with the sample drawn freely. That an oracle in the state decides is the model's DESIGN
CHOICE (log entries 1 and 2), and this statement says that it neither adds nor loses a step. -/
def Obligations.StepsOverAllOraclesAreTheStepRelation : Prop :=
  ∀ s t : State,
    (∃ o u, o.DrawsInRange ∧ step (s.withOracle o) = .next u ∧ SameBlock u t) ↔
    (∃ u, StepsTo s u ∧ SameBlock u t)

/-- 30_encoding.md R81: a schedule placed ahead is performed event by event: so many steps of the machine end where the
events end, with the schedule used up, or stop where the script is stuck. The schedule is the model's oracle (DESIGN
CHOICE, log entry 1). -/
def Obligations.ScheduledEventsArePerformedInOrder : Prop :=
  ∀ (es : List Event) (s : State),
    (∀ t, runEvents es s = .next t →
      Host.Core.run Sys2Proof.core es.length
          { s with oracle := { s.oracle with schedule := es ++ s.oracle.schedule } } =
        .next { t with oracle := { t.oracle with turns := s.oracle.turns + es.length } }) ∧
    (∀ f, runEvents es s = .fault f →
      Host.Core.run Sys2Proof.core es.length
          { s with oracle := { s.oracle with schedule := es ++ s.oracle.schedule } } = .fault f)

/-- 43_dispatch_loop.md R180: the phases of one iteration, in order, with no step of another agent between. -/
def Obligations.IterationVisitsThePhasesInOrder : Prop :=
  ∀ s : State, s.phase = .rxCheck → ∃ t, mainStep s = .next t ∧ t.phase = .sampleCheck ∧
    (sampleWanted t = false → ∃ u, mainStep t = .next u ∧ u.phase = .rxCheck) ∧
    (sampleWanted t = true → ∃ u v w, mainStep t = .next u ∧ u.phase = .emit ∧ mainStep u = .next v ∧
      v.phase = .clear ∧ mainStep v = .next w ∧ w.phase = .rxCheck)

/-- 43_dispatch_loop.md R187, 95_test_vectors.md L6: from every state at RX_CHECK, k iterations run to the end of the
k-th, take the first k bytes of the queue, and come to what the commands of those bytes, handled in that order, come to.
Only a sample that is due can add to it: it is sent or discarded on the way. With none due there is nothing else. -/
def Obligations.IterationsHandleOneByteEach : Prop :=
  ∀ (k : Nat) (s : State), s.phase = .rxCheck →
    ∃ t u, iterations k s = .next t ∧ handleAll (s.rx.take k) s = .next u ∧
      t.phase = .rxCheck ∧ t.rx = s.rx.drop k ∧
      -- every field a command writes is as the commands leave it, but for the due sample
      t = { u with rx := t.rx, sampleDue := t.sampleDue, tx := t.tx, oracle := t.oracle } ∧
      -- every reply is sent, in order
      u.tx.Sublist t.tx ∧
      (s.sampleDue = false → t = { u with rx := s.rx.drop k })

/-! ### Power-on -/

/-- 70_reset_and_hazards.md R230: every field at power-on, where the generator holds P_AFE_INIT; the status word is
0x04. -/
def Obligations.PowerOnState : Prop :=
  State.reset.isStreaming = false ∧ State.reset.sampleDue = false ∧ State.reset.timerArmed = false ∧
  State.reset.irqBound = false ∧ State.reset.timerPending = false ∧ State.reset.range = .large ∧
  State.reset.waveform = .wave1 ∧ State.reset.phase = .rxCheck ∧ State.reset.rx = [] ∧ State.reset.tx = [] ∧
  State.reset.afeLog = [] ∧ State.reset.afeRange = Config.afeInitRange ∧ State.reset.afeWave = Config.afeInitWave ∧
  statusWord State.reset = 0x04#8

/-- 70_reset_and_hazards.md R232: execution starts at RX_CHECK, the timer disarmed and no interrupt possible. -/
def Obligations.EntryContextTakesNoInterrupt : Prop :=
  State.reset.phase = .rxCheck ∧ State.reset.irqBound = false ∧ State.reset.timerArmed = false ∧
  enabled .isr State.reset = false ∧ enabled .tick State.reset = false

/-- 10_state.md R39, a notation the spec chose: the bits of the status word. -/
def Obligations.StatusWordBits : Prop :=
  ∀ s : State,
    (statusWord s).getLsbD 0 = s.isStreaming ∧ (statusWord s).getLsbD 1 = s.sampleDue ∧
    (statusWord s).getLsbD 2 = decide (s.range = .large) ∧ (statusWord s).getLsbD 3 = decide (s.waveform = .wave2) ∧
    (statusWord s).getLsbD 4 = s.timerArmed ∧ (statusWord s).getLsbD 5 = s.irqBound ∧
    (statusWord s).getLsbD 6 = s.timerPending ∧ (statusWord s).getLsbD 7 = false

/-! ### Invariants -/

/-- The invariant (10_state.md R23, R26, R30 and what they need) holds at power-on. -/
def Obligations.InvariantAtPowerOn : Prop := Inv State.reset

/-- 10_state.md R23 and R30, which the spec marks as derived, and R26: every step of the machine keeps the invariant, from
every state that has it. -/
def Obligations.StepKeepsInvariant : Prop :=
  ∀ s t : State, Inv s → step s = .next t → Inv t

/-- 10_state.md R30, which the spec marks as derived: in every state reachable from power-on, under every schedule and
draw. -/
def Obligations.ReachableTimerFlagsAgree : Prop :=
  ∀ s : State, Reachable s →
    s.timerArmed = s.irqBound ∧ s.irqBound = s.isStreaming ∧ (s.timerPending = true → s.timerArmed = true)

/-- 10_state.md R23, which the spec marks as derived: in every state reachable from power-on, a sample is due only while
streaming. -/
def Obligations.ReachableDueOnlyWhileStreaming : Prop :=
  ∀ s : State, Reachable s → s.sampleDue = true → s.isStreaming = true

/-- 10_state.md R26: the mirror. An accepted setter call writes field and AFE together; in every reachable state, once a
field has been written the AFE holds what the field holds, and before that the AFE holds P_AFE_INIT. -/
def Obligations.ReachableAfeMirrorsConfig : Prop :=
  (∀ (r : Range) (s : State), acceptRange r s =
    { s with range := r, afeRange := r, afeLog := s.afeLog ++ [.setRange r] }) ∧
  (∀ (w : Wave) (s : State), acceptWave w s =
    { s with waveform := w, afeWave := w, afeLog := s.afeLog ++ [.selectWave w] }) ∧
  ∀ s : State, Reachable s →
    ((∃ r, AfeWrite.setRange r ∈ s.afeLog) → s.afeRange = s.range) ∧
    ((∃ w, AfeWrite.selectWave w ∈ s.afeLog) → s.afeWave = s.waveform) ∧
    ((∀ r, AfeWrite.setRange r ∉ s.afeLog) → s.afeRange = Config.afeInitRange ∧ s.range = .large) ∧
    ((∀ w, AfeWrite.selectWave w ∉ s.afeLog) → s.afeWave = Config.afeInitWave ∧ s.waveform = .wave1)

/-! ### Rules of the whole machine -/

/-- 40_streaming_controller.md R108: which steps take `sampleDue` from true to false, and which step reads the sampler
(as the model's counter of reads shows it): exactly these. -/
def Obligations.SampleDueIsClearedOnlyByClearAndStop : Prop :=
  (∀ (s t : State) (e : Event), stepEvent e s = .next t → s.sampleDue = true →
    (t.sampleDue = false ↔ e = .main ∧
      (s.phase = .clear ∨ (s.phase = .rxCheck ∧
        ∃ c rest, s.rx = c :: rest ∧ (decode c = .stopStreaming ∨ decode c = .connect))))) ∧
  -- a stop discards the due sample: what the step sends is at most Connect's reply
  (∀ (s t : State), stepEvent .main s = .next t → s.phase = .rxCheck → s.sampleDue = true → t.sampleDue = false →
    t.tx = s.tx ∨ t.tx = s.tx ++ Config.connectReply) ∧
  ∀ (s t : State) (e : Event), stepEvent e s = .next t →
    (t.oracle.reads ≠ s.oracle.reads ↔ e = .main ∧ s.phase = .emit)

/-- 10_state.md R21, R22: which steps write `isStreaming`, and which set `sampleDue`. -/
def Obligations.WritersOfTheStreamingFlags : Prop :=
  (∀ (s t : State) (e : Event), stepEvent e s = .next t → t.isStreaming ≠ s.isStreaming →
    e = .main ∧ s.phase = .rxCheck ∧ ∃ c rest, s.rx = c :: rest ∧
      ((t.isStreaming = true ∧ decode c = .startStreaming) ∨
        (t.isStreaming = false ∧ (decode c = .stopStreaming ∨ decode c = .connect)))) ∧
  ∀ (s t : State) (e : Event), stepEvent e s = .next t → s.sampleDue = false → t.sampleDue = true → e = .isr

/-- 10_state.md R24, R25: only a command at RX_CHECK writes OutputConfig, and which command writes which value. -/
def Obligations.WritersOfOutputConfig : Prop :=
  (∀ (s t : State) (e : Event), stepEvent e s = .next t → t.range ≠ s.range →
    e = .main ∧ s.phase = .rxCheck ∧ ∃ c rest, s.rx = c :: rest ∧
      ((t.range = .small ∧ decode c = .selectRangeSmall) ∨
        (t.range = .large ∧ (decode c = .selectRangeLarge ∨ decode c = .connect)))) ∧
  ∀ (s t : State) (e : Event), stepEvent e s = .next t → t.waveform ≠ s.waveform →
    e = .main ∧ s.phase = .rxCheck ∧ ∃ c rest, s.rx = c :: rest ∧
      ((t.waveform = .wave2 ∧ decode c = .selectWave2) ∨
        (t.waveform = .wave1 ∧ (decode c = .selectWave1 ∨ decode c = .connect)))

/-- 10_state.md R37, 60_exceptions.md R208: what each agent other than MAIN may touch: the timer its request, the handler
`sampleDue` and the request, HOST the inbound queue; MAIN only removes from that queue; and only MAIN changes what the
host or the AFE observes (R38). -/
def Obligations.AgentsTouchOnlyTheirFields : Prop :=
  (∀ s t : State, stepEvent .tick s = .next t → { t with timerPending := s.timerPending } = s) ∧
  (∀ s t : State, stepEvent .isr s = .next t →
    { t with sampleDue := s.sampleDue, timerPending := s.timerPending } = s) ∧
  (∀ (b : Byte) (s t : State), stepEvent (.rx b) s = .next t → { t with rx := s.rx } = s) ∧
  (∀ s t : State, stepEvent .main s = .next t → t.rx = s.rx.drop (handledBy .main s).length) ∧
  ∀ (e : Event) (s t : State), stepEvent e s = .next t → e.agent ≠ .mainLoop →
    hostView t = hostView s ∧ afeView t = afeView s

/-- 40_streaming_controller.md R109, R110: `produceSampleIfDue()` with any steps of the other agents between its
micro-steps. When TEST reads true, it reads the sampler once and sends exactly one packet, and every firing before the
CLEAR is absorbed; when TEST reads false it reads nothing and sends nothing. -/
def Obligations.ProduceSampleSendsOnePacketAndAbsorbsFirings : Prop :=
  ∀ (s t : State) (before after : List Event), s.phase = .sampleCheck →
    (∀ e ∈ before, e ≠ .main) → (∀ e ∈ after, e ≠ .main) →
    (sampleWanted s = true → runEvents (.main :: before ++ .main :: after ++ [.main]) s = .next t →
      t.phase = .rxCheck ∧ t.sampleDue = false ∧ t.tx = s.tx ++ encodeSample (samplerValue s) ∧
        t.oracle.reads = s.oracle.reads + 1) ∧
    (sampleWanted s = false → runEvents (.main :: before) s = .next t →
      t.phase = .rxCheck ∧ t.tx = s.tx ∧ t.oracle.reads = s.oracle.reads)

/-- 20_memory.md R59, 95_test_vectors.md W7: over every run that begins with nothing due and ends outside EMIT, with any
interleaving of ticks, firings, bytes and MAIN micro-steps, the number of samples sent is the minimum of the number of
firings and the number of TESTs that read true: none is fabricated, none duplicated. -/
def Obligations.SamplesAreMinOfFiringsAndTrueTests : Prop :=
  ∀ (es : List Event) (s t : State), s.sampleDue = false → (s.phase = .rxCheck ∨ s.phase = .sampleCheck) →
    runEvents es s = .next t → t.phase ≠ .emit →
    (gather sampleMark es s).length =
      min (gather firingMark es s).length (gather trueTestMark es s).length

/-- 20_memory.md R59 (a), (b): at every point of every run the samples sent so far are no more than the firings so
far. -/
def Obligations.NoMoreSamplesThanFirings : Prop :=
  ∀ (es : List Event) (s t : State), s.sampleDue = false → (s.phase = .rxCheck ∨ s.phase = .sampleCheck) →
    runEvents es s = .next t →
    (gather sampleMark es s).length ≤ (gather firingMark es s).length

/-- 20_memory.md R61: the inbound queue is first in, first out and lossless over every run: what was queued, then what
HOST appended, is what MAIN handled, then what is queued at the end. -/
def Obligations.InboundQueueIsFifoAndLossless : Prop :=
  ∀ (es : List Event) (s t : State), runEvents es s = .next t →
    s.rx ++ es.flatMap bytesIn = gather handledBy es s ++ t.rx

/-- 10_state.md R33, 20_memory.md R57 (c), R62: the outbound log only grows, by the packets of the steps in their order:
each reply whole, each sample packet whole. -/
def Obligations.OutboundLogIsTheOutputsInOrder : Prop :=
  ∀ (es : List Event) (s t : State), runEvents es s = .next t → hostView t = hostView s ++ gather sentBy es s

/-- 60_exceptions.md R211: a request raised before `stop()` never reaches the handler: after a stop, through every run
in which the timer does not tick anew, later starts included, the handler cannot run. -/
def Obligations.StopDropsThePendingRequestForGood : Prop :=
  ∀ s : State, ∃ t, exec .stopStreaming s = .next t ∧ t.timerArmed = false ∧ t.timerPending = false ∧
    ∀ (es : List Event) (u : State), runEvents es t = .next u → Event.tick ∉ es → enabled .isr u = false

/-- 10_state.md R24, R25, R38: OutputConfig and the AFE never influence anything else: two states that differ only there
go through the same events to states that differ only there. -/
def Obligations.OutputConfigInfluencesNothingElse : Prop :=
  ∀ (es : List Event) (s t s' : State) (r : Range) (w : Wave) (ar : Range) (aw : Wave) (log : List AfeWrite),
    s' = { s with range := r, waveform := w, afeRange := ar, afeWave := aw, afeLog := log } →
    runEvents es s = .next t →
    ∃ t', runEvents es s' = .next t' ∧
      t = { t' with range := t.range, waveform := t.waveform, afeRange := t.afeRange, afeWave := t.afeWave,
                    afeLog := t.afeLog }

/-- 60_exceptions.md R207 (a): within one iteration the command runs before the sample check, so that a stop received
while a sample is due discards it: the iteration sends nothing. -/
def Obligations.StopBeforeSampleCheckDiscardsTheSample : Prop :=
  ∀ (s : State) (rest : List Byte), s.phase = .rxCheck → s.rx = 0x73#8 :: rest →
    ∃ t, iteration s = .next t ∧ t.tx = s.tx ∧ t.sampleDue = false ∧ t.isStreaming = false ∧ t.rx = rest

/-- 43_dispatch_loop.md R183, 90_conflicts.md C6: a firing that finds MAIN at RX_CHECK may come before or after the
whole command. For every byte but those of StopStreaming and Connect the two orders end in the same state; a stop or
a Connect makes the firing as if it had never been. -/
def Obligations.FiringCommutesWithTheCommand : Prop :=
  (∀ (s : State) (c : Byte) (rest : List Byte), s.phase = .rxCheck → enabled .isr s = true → s.rx = c :: rest →
    decode c ≠ .stopStreaming → decode c ≠ .connect →
    ∃ t, runEvents [.isr, .main] s = .next t ∧ runEvents [.main, .isr] s = .next t) ∧
  ∀ (s : State) (c : Byte) (rest : List Byte), s.phase = .rxCheck → enabled .isr s = true → s.rx = c :: rest →
    decode c = .stopStreaming ∨ decode c = .connect →
    ∃ t, runEvents [.isr, .main] s = .next t ∧ runEvents [.main] s = .next t ∧ enabled .isr t = false

/-- 30_encoding.md R81, R82: what the script lines `fire`, `iter`, `send` and `draw` come to. That a stuck line is a
fault, where a draw waits and how `iter` is bounded are the model's (log entries 9, 18 and 21). -/
def Obligations.ScriptLinesExpandAsDefined : Prop :=
  (∀ s : State, s.timerArmed = true → s.irqBound = true →
    runLine .fire s = .next { s with sampleDue := true, timerPending := false }) ∧
  (∀ s : State, s.timerArmed = true → s.irqBound = false → runLine .fire s = .fault (.notEnabled .isr)) ∧
  (∀ s : State, s.timerArmed = false → runLine .fire s = .fault (.notEnabled .tick)) ∧
  (∀ s t : State, s.phase = .rxCheck → mainStep s = .next t → runLine .iter s =
    if sampleWanted t = true then runEvents [.main, .main, .main, .main] s else runEvents [.main, .main] s) ∧
  (∀ (b : Byte) (s : State), runLine (.send b) s = iteration { s with rx := s.rx ++ [b] }) ∧
  (∀ (v : Nat) (s : State), s.oracle.draws = [] → v < 2 ^ Config.rawWidth →
    ∃ t, runLine (.draw v) s = .next t ∧ SameBlock t s ∧ samplerValue t = v) ∧
  ∀ (v : Nat) (s : State), 2 ^ Config.rawWidth ≤ v → runLine (.draw v) s = .fault (.drawTooWide v)

/-! ### Fair infinite runs -/

/-- 43_dispatch_loop.md R186, R187: in every fair run every byte waiting in the queue is handled, after those before
it, whatever the other agents do. -/
def Obligations.FairRunsHandleEveryWaitingByte : Prop :=
  ∀ (event : Nat → Event) (state : Nat → State), InfiniteRun event state → Fair event state →
    ∀ n k : Nat, k < (state n).rx.length →
      ∃ m, handledFrom event state n m = (state n).rx.take (k + 1)

/-- 43_dispatch_loop.md R186, R187: in every fair run that streams from some instant on, samples are sent for ever: the
timer fires, the handler runs and MAIN consumes what is due. -/
def Obligations.FairStreamingRunsSendSamplesForEver : Prop :=
  ∀ (event : Nat → Event) (state : Nat → State), InfiniteRun event state → Fair event state → Inv (state 0) →
    (∃ n, ∀ m, n ≤ m → (state m).isStreaming = true) →
    ∀ n, ∃ m, n ≤ m ∧ event m = .main ∧ (state m).phase = .emit
end

