-- ==== Sys2Proof/Laws/Decode.lean ====
section
/-! SUPPORT. Small facts about the decoder and the encoder. -/

namespace Sys2Proof

/-- The default table is well formed. -/
theorem defaultTable_wellFormed : CmdTable.wellFormed defaultTable = true := by decide

/-- The default table gives no command to two bytes (30_encoding.md R72). -/
theorem defaultTable_namesOnce : CmdTable.namesOnce defaultTable = true := by decide

/-- The encoder written out by hand agrees with the one that looks the default table up. -/
theorem encodeWith_defaultTable (i : Instr) : encodeWith defaultTable i = some (encodeByte i) := by
  cases i <;> rfl

/-- Decoding a byte string with a byte in it. -/
@[simp] theorem decodeBytes_cons (c : Byte) (rest : List Byte) : decodeBytes (c :: rest) = .command (decode c) rest := rfl

/-- The table word of a byte is that byte's command. -/
theorem decodeTableWord_byte (w : Nat) : decodeTableWord 8 w = some (decode (BitVec.ofNat 8 (w % 2 ^ 8))) := rfl

end Sys2Proof
end

