-- ==== Sys2Proof/Laws/State.lean ====
section
/-! SUPPORT. What each field reads after each update of the state: one lemma per field per update, true by `rfl`. -/

namespace Sys2Proof.Machine

section

variable (b : Bool) (s : State)

@[simp] theorem setStreaming_isStreaming : (setStreaming b s).isStreaming = b := rfl
@[simp] theorem setStreaming_sampleDue : (setStreaming b s).sampleDue = s.sampleDue := rfl
@[simp] theorem setStreaming_range : (setStreaming b s).range = s.range := rfl
@[simp] theorem setStreaming_waveform : (setStreaming b s).waveform = s.waveform := rfl
@[simp] theorem setStreaming_timerArmed : (setStreaming b s).timerArmed = s.timerArmed := rfl
@[simp] theorem setStreaming_irqBound : (setStreaming b s).irqBound = s.irqBound := rfl
@[simp] theorem setStreaming_timerPending : (setStreaming b s).timerPending = s.timerPending := rfl
@[simp] theorem setStreaming_phase : (setStreaming b s).phase = s.phase := rfl
@[simp] theorem setStreaming_rx : (setStreaming b s).rx = s.rx := rfl
@[simp] theorem setStreaming_tx : (setStreaming b s).tx = s.tx := rfl
@[simp] theorem setStreaming_afeRange : (setStreaming b s).afeRange = s.afeRange := rfl
@[simp] theorem setStreaming_afeWave : (setStreaming b s).afeWave = s.afeWave := rfl
@[simp] theorem setStreaming_afeLog : (setStreaming b s).afeLog = s.afeLog := rfl
@[simp] theorem setStreaming_oracle : (setStreaming b s).oracle = s.oracle := rfl

end

section

variable (b : Bool) (s : State)

@[simp] theorem setSampleDue_isStreaming : (setSampleDue b s).isStreaming = s.isStreaming := rfl
@[simp] theorem setSampleDue_sampleDue : (setSampleDue b s).sampleDue = b := rfl
@[simp] theorem setSampleDue_range : (setSampleDue b s).range = s.range := rfl
@[simp] theorem setSampleDue_waveform : (setSampleDue b s).waveform = s.waveform := rfl
@[simp] theorem setSampleDue_timerArmed : (setSampleDue b s).timerArmed = s.timerArmed := rfl
@[simp] theorem setSampleDue_irqBound : (setSampleDue b s).irqBound = s.irqBound := rfl
@[simp] theorem setSampleDue_timerPending : (setSampleDue b s).timerPending = s.timerPending := rfl
@[simp] theorem setSampleDue_phase : (setSampleDue b s).phase = s.phase := rfl
@[simp] theorem setSampleDue_rx : (setSampleDue b s).rx = s.rx := rfl
@[simp] theorem setSampleDue_tx : (setSampleDue b s).tx = s.tx := rfl
@[simp] theorem setSampleDue_afeRange : (setSampleDue b s).afeRange = s.afeRange := rfl
@[simp] theorem setSampleDue_afeWave : (setSampleDue b s).afeWave = s.afeWave := rfl
@[simp] theorem setSampleDue_afeLog : (setSampleDue b s).afeLog = s.afeLog := rfl
@[simp] theorem setSampleDue_oracle : (setSampleDue b s).oracle = s.oracle := rfl

end

section

variable (p : Phase) (s : State)

@[simp] theorem setPhase_isStreaming : (setPhase p s).isStreaming = s.isStreaming := rfl
@[simp] theorem setPhase_sampleDue : (setPhase p s).sampleDue = s.sampleDue := rfl
@[simp] theorem setPhase_range : (setPhase p s).range = s.range := rfl
@[simp] theorem setPhase_waveform : (setPhase p s).waveform = s.waveform := rfl
@[simp] theorem setPhase_timerArmed : (setPhase p s).timerArmed = s.timerArmed := rfl
@[simp] theorem setPhase_irqBound : (setPhase p s).irqBound = s.irqBound := rfl
@[simp] theorem setPhase_timerPending : (setPhase p s).timerPending = s.timerPending := rfl
@[simp] theorem setPhase_phase : (setPhase p s).phase = p := rfl
@[simp] theorem setPhase_rx : (setPhase p s).rx = s.rx := rfl
@[simp] theorem setPhase_tx : (setPhase p s).tx = s.tx := rfl
@[simp] theorem setPhase_afeRange : (setPhase p s).afeRange = s.afeRange := rfl
@[simp] theorem setPhase_afeWave : (setPhase p s).afeWave = s.afeWave := rfl
@[simp] theorem setPhase_afeLog : (setPhase p s).afeLog = s.afeLog := rfl
@[simp] theorem setPhase_oracle : (setPhase p s).oracle = s.oracle := rfl

end

section

variable (s : State)

@[simp] theorem rxDrop_isStreaming : (rxDrop s).isStreaming = s.isStreaming := rfl
@[simp] theorem rxDrop_sampleDue : (rxDrop s).sampleDue = s.sampleDue := rfl
@[simp] theorem rxDrop_range : (rxDrop s).range = s.range := rfl
@[simp] theorem rxDrop_waveform : (rxDrop s).waveform = s.waveform := rfl
@[simp] theorem rxDrop_timerArmed : (rxDrop s).timerArmed = s.timerArmed := rfl
@[simp] theorem rxDrop_irqBound : (rxDrop s).irqBound = s.irqBound := rfl
@[simp] theorem rxDrop_timerPending : (rxDrop s).timerPending = s.timerPending := rfl
@[simp] theorem rxDrop_phase : (rxDrop s).phase = s.phase := rfl
@[simp] theorem rxDrop_rx : (rxDrop s).rx = s.rx.tail := rfl
@[simp] theorem rxDrop_tx : (rxDrop s).tx = s.tx := rfl
@[simp] theorem rxDrop_afeRange : (rxDrop s).afeRange = s.afeRange := rfl
@[simp] theorem rxDrop_afeWave : (rxDrop s).afeWave = s.afeWave := rfl
@[simp] theorem rxDrop_afeLog : (rxDrop s).afeLog = s.afeLog := rfl
@[simp] theorem rxDrop_oracle : (rxDrop s).oracle = s.oracle := rfl

end

section

variable (b : Byte) (s : State)

@[simp] theorem rxAppend_isStreaming : (rxAppend b s).isStreaming = s.isStreaming := rfl
@[simp] theorem rxAppend_sampleDue : (rxAppend b s).sampleDue = s.sampleDue := rfl
@[simp] theorem rxAppend_range : (rxAppend b s).range = s.range := rfl
@[simp] theorem rxAppend_waveform : (rxAppend b s).waveform = s.waveform := rfl
@[simp] theorem rxAppend_timerArmed : (rxAppend b s).timerArmed = s.timerArmed := rfl
@[simp] theorem rxAppend_irqBound : (rxAppend b s).irqBound = s.irqBound := rfl
@[simp] theorem rxAppend_timerPending : (rxAppend b s).timerPending = s.timerPending := rfl
@[simp] theorem rxAppend_phase : (rxAppend b s).phase = s.phase := rfl
@[simp] theorem rxAppend_rx : (rxAppend b s).rx = s.rx ++ [b] := rfl
@[simp] theorem rxAppend_tx : (rxAppend b s).tx = s.tx := rfl
@[simp] theorem rxAppend_afeRange : (rxAppend b s).afeRange = s.afeRange := rfl
@[simp] theorem rxAppend_afeWave : (rxAppend b s).afeWave = s.afeWave := rfl
@[simp] theorem rxAppend_afeLog : (rxAppend b s).afeLog = s.afeLog := rfl
@[simp] theorem rxAppend_oracle : (rxAppend b s).oracle = s.oracle := rfl

end

section

variable (bs : List Byte) (s : State)

@[simp] theorem txAppend_isStreaming : (txAppend bs s).isStreaming = s.isStreaming := rfl
@[simp] theorem txAppend_sampleDue : (txAppend bs s).sampleDue = s.sampleDue := rfl
@[simp] theorem txAppend_range : (txAppend bs s).range = s.range := rfl
@[simp] theorem txAppend_waveform : (txAppend bs s).waveform = s.waveform := rfl
@[simp] theorem txAppend_timerArmed : (txAppend bs s).timerArmed = s.timerArmed := rfl
@[simp] theorem txAppend_irqBound : (txAppend bs s).irqBound = s.irqBound := rfl
@[simp] theorem txAppend_timerPending : (txAppend bs s).timerPending = s.timerPending := rfl
@[simp] theorem txAppend_phase : (txAppend bs s).phase = s.phase := rfl
@[simp] theorem txAppend_rx : (txAppend bs s).rx = s.rx := rfl
@[simp] theorem txAppend_tx : (txAppend bs s).tx = s.tx ++ bs := rfl
@[simp] theorem txAppend_afeRange : (txAppend bs s).afeRange = s.afeRange := rfl
@[simp] theorem txAppend_afeWave : (txAppend bs s).afeWave = s.afeWave := rfl
@[simp] theorem txAppend_afeLog : (txAppend bs s).afeLog = s.afeLog := rfl
@[simp] theorem txAppend_oracle : (txAppend bs s).oracle = s.oracle := rfl

end

section

variable (s : State)

@[simp] theorem samplerAdvance_isStreaming : (samplerAdvance s).isStreaming = s.isStreaming := rfl
@[simp] theorem samplerAdvance_sampleDue : (samplerAdvance s).sampleDue = s.sampleDue := rfl
@[simp] theorem samplerAdvance_range : (samplerAdvance s).range = s.range := rfl
@[simp] theorem samplerAdvance_waveform : (samplerAdvance s).waveform = s.waveform := rfl
@[simp] theorem samplerAdvance_timerArmed : (samplerAdvance s).timerArmed = s.timerArmed := rfl
@[simp] theorem samplerAdvance_irqBound : (samplerAdvance s).irqBound = s.irqBound := rfl
@[simp] theorem samplerAdvance_timerPending : (samplerAdvance s).timerPending = s.timerPending := rfl
@[simp] theorem samplerAdvance_phase : (samplerAdvance s).phase = s.phase := rfl
@[simp] theorem samplerAdvance_rx : (samplerAdvance s).rx = s.rx := rfl
@[simp] theorem samplerAdvance_tx : (samplerAdvance s).tx = s.tx := rfl
@[simp] theorem samplerAdvance_afeRange : (samplerAdvance s).afeRange = s.afeRange := rfl
@[simp] theorem samplerAdvance_afeWave : (samplerAdvance s).afeWave = s.afeWave := rfl
@[simp] theorem samplerAdvance_afeLog : (samplerAdvance s).afeLog = s.afeLog := rfl
@[simp] theorem samplerAdvance_oracle : (samplerAdvance s).oracle = { s.oracle with draws := s.oracle.draws.tail, reads := s.oracle.reads + 1 } := rfl

end

section

variable (r : Range) (s : State)

@[simp] theorem afeSetRange_isStreaming : (afeSetRange r s).isStreaming = s.isStreaming := rfl
@[simp] theorem afeSetRange_sampleDue : (afeSetRange r s).sampleDue = s.sampleDue := rfl
@[simp] theorem afeSetRange_range : (afeSetRange r s).range = s.range := rfl
@[simp] theorem afeSetRange_waveform : (afeSetRange r s).waveform = s.waveform := rfl
@[simp] theorem afeSetRange_timerArmed : (afeSetRange r s).timerArmed = s.timerArmed := rfl
@[simp] theorem afeSetRange_irqBound : (afeSetRange r s).irqBound = s.irqBound := rfl
@[simp] theorem afeSetRange_timerPending : (afeSetRange r s).timerPending = s.timerPending := rfl
@[simp] theorem afeSetRange_phase : (afeSetRange r s).phase = s.phase := rfl
@[simp] theorem afeSetRange_rx : (afeSetRange r s).rx = s.rx := rfl
@[simp] theorem afeSetRange_tx : (afeSetRange r s).tx = s.tx := rfl
@[simp] theorem afeSetRange_afeRange : (afeSetRange r s).afeRange = r := rfl
@[simp] theorem afeSetRange_afeWave : (afeSetRange r s).afeWave = s.afeWave := rfl
@[simp] theorem afeSetRange_afeLog : (afeSetRange r s).afeLog = s.afeLog ++ [.setRange r] := rfl
@[simp] theorem afeSetRange_oracle : (afeSetRange r s).oracle = s.oracle := rfl

end

section

variable (w : Wave) (s : State)

@[simp] theorem afeSelectWave_isStreaming : (afeSelectWave w s).isStreaming = s.isStreaming := rfl
@[simp] theorem afeSelectWave_sampleDue : (afeSelectWave w s).sampleDue = s.sampleDue := rfl
@[simp] theorem afeSelectWave_range : (afeSelectWave w s).range = s.range := rfl
@[simp] theorem afeSelectWave_waveform : (afeSelectWave w s).waveform = s.waveform := rfl
@[simp] theorem afeSelectWave_timerArmed : (afeSelectWave w s).timerArmed = s.timerArmed := rfl
@[simp] theorem afeSelectWave_irqBound : (afeSelectWave w s).irqBound = s.irqBound := rfl
@[simp] theorem afeSelectWave_timerPending : (afeSelectWave w s).timerPending = s.timerPending := rfl
@[simp] theorem afeSelectWave_phase : (afeSelectWave w s).phase = s.phase := rfl
@[simp] theorem afeSelectWave_rx : (afeSelectWave w s).rx = s.rx := rfl
@[simp] theorem afeSelectWave_tx : (afeSelectWave w s).tx = s.tx := rfl
@[simp] theorem afeSelectWave_afeRange : (afeSelectWave w s).afeRange = s.afeRange := rfl
@[simp] theorem afeSelectWave_afeWave : (afeSelectWave w s).afeWave = w := rfl
@[simp] theorem afeSelectWave_afeLog : (afeSelectWave w s).afeLog = s.afeLog ++ [.selectWave w] := rfl
@[simp] theorem afeSelectWave_oracle : (afeSelectWave w s).oracle = s.oracle := rfl

end

section

variable (s : State)

@[simp] theorem timerArm_isStreaming : (timerArm s).isStreaming = s.isStreaming := rfl
@[simp] theorem timerArm_sampleDue : (timerArm s).sampleDue = s.sampleDue := rfl
@[simp] theorem timerArm_range : (timerArm s).range = s.range := rfl
@[simp] theorem timerArm_waveform : (timerArm s).waveform = s.waveform := rfl
@[simp] theorem timerArm_timerArmed : (timerArm s).timerArmed = true := rfl
@[simp] theorem timerArm_irqBound : (timerArm s).irqBound = s.irqBound := rfl
@[simp] theorem timerArm_timerPending : (timerArm s).timerPending = s.timerPending := rfl
@[simp] theorem timerArm_phase : (timerArm s).phase = s.phase := rfl
@[simp] theorem timerArm_rx : (timerArm s).rx = s.rx := rfl
@[simp] theorem timerArm_tx : (timerArm s).tx = s.tx := rfl
@[simp] theorem timerArm_afeRange : (timerArm s).afeRange = s.afeRange := rfl
@[simp] theorem timerArm_afeWave : (timerArm s).afeWave = s.afeWave := rfl
@[simp] theorem timerArm_afeLog : (timerArm s).afeLog = s.afeLog := rfl
@[simp] theorem timerArm_oracle : (timerArm s).oracle = s.oracle := rfl

end

section

variable (s : State)

@[simp] theorem timerDisarm_isStreaming : (timerDisarm s).isStreaming = s.isStreaming := rfl
@[simp] theorem timerDisarm_sampleDue : (timerDisarm s).sampleDue = s.sampleDue := rfl
@[simp] theorem timerDisarm_range : (timerDisarm s).range = s.range := rfl
@[simp] theorem timerDisarm_waveform : (timerDisarm s).waveform = s.waveform := rfl
@[simp] theorem timerDisarm_timerArmed : (timerDisarm s).timerArmed = false := rfl
@[simp] theorem timerDisarm_irqBound : (timerDisarm s).irqBound = s.irqBound := rfl
@[simp] theorem timerDisarm_timerPending : (timerDisarm s).timerPending = false := rfl
@[simp] theorem timerDisarm_phase : (timerDisarm s).phase = s.phase := rfl
@[simp] theorem timerDisarm_rx : (timerDisarm s).rx = s.rx := rfl
@[simp] theorem timerDisarm_tx : (timerDisarm s).tx = s.tx := rfl
@[simp] theorem timerDisarm_afeRange : (timerDisarm s).afeRange = s.afeRange := rfl
@[simp] theorem timerDisarm_afeWave : (timerDisarm s).afeWave = s.afeWave := rfl
@[simp] theorem timerDisarm_afeLog : (timerDisarm s).afeLog = s.afeLog := rfl
@[simp] theorem timerDisarm_oracle : (timerDisarm s).oracle = s.oracle := rfl

end

section

variable (s : State)

@[simp] theorem timerRaise_isStreaming : (timerRaise s).isStreaming = s.isStreaming := rfl
@[simp] theorem timerRaise_sampleDue : (timerRaise s).sampleDue = s.sampleDue := rfl
@[simp] theorem timerRaise_range : (timerRaise s).range = s.range := rfl
@[simp] theorem timerRaise_waveform : (timerRaise s).waveform = s.waveform := rfl
@[simp] theorem timerRaise_timerArmed : (timerRaise s).timerArmed = s.timerArmed := rfl
@[simp] theorem timerRaise_irqBound : (timerRaise s).irqBound = s.irqBound := rfl
@[simp] theorem timerRaise_timerPending : (timerRaise s).timerPending = true := rfl
@[simp] theorem timerRaise_phase : (timerRaise s).phase = s.phase := rfl
@[simp] theorem timerRaise_rx : (timerRaise s).rx = s.rx := rfl
@[simp] theorem timerRaise_tx : (timerRaise s).tx = s.tx := rfl
@[simp] theorem timerRaise_afeRange : (timerRaise s).afeRange = s.afeRange := rfl
@[simp] theorem timerRaise_afeWave : (timerRaise s).afeWave = s.afeWave := rfl
@[simp] theorem timerRaise_afeLog : (timerRaise s).afeLog = s.afeLog := rfl
@[simp] theorem timerRaise_oracle : (timerRaise s).oracle = s.oracle := rfl

end

section

variable (s : State)

@[simp] theorem timerAck_isStreaming : (timerAck s).isStreaming = s.isStreaming := rfl
@[simp] theorem timerAck_sampleDue : (timerAck s).sampleDue = s.sampleDue := rfl
@[simp] theorem timerAck_range : (timerAck s).range = s.range := rfl
@[simp] theorem timerAck_waveform : (timerAck s).waveform = s.waveform := rfl
@[simp] theorem timerAck_timerArmed : (timerAck s).timerArmed = s.timerArmed := rfl
@[simp] theorem timerAck_irqBound : (timerAck s).irqBound = s.irqBound := rfl
@[simp] theorem timerAck_timerPending : (timerAck s).timerPending = false := rfl
@[simp] theorem timerAck_phase : (timerAck s).phase = s.phase := rfl
@[simp] theorem timerAck_rx : (timerAck s).rx = s.rx := rfl
@[simp] theorem timerAck_tx : (timerAck s).tx = s.tx := rfl
@[simp] theorem timerAck_afeRange : (timerAck s).afeRange = s.afeRange := rfl
@[simp] theorem timerAck_afeWave : (timerAck s).afeWave = s.afeWave := rfl
@[simp] theorem timerAck_afeLog : (timerAck s).afeLog = s.afeLog := rfl
@[simp] theorem timerAck_oracle : (timerAck s).oracle = s.oracle := rfl

end

section

variable (s : State)

@[simp] theorem irqBind_isStreaming : (irqBind s).isStreaming = s.isStreaming := rfl
@[simp] theorem irqBind_sampleDue : (irqBind s).sampleDue = s.sampleDue := rfl
@[simp] theorem irqBind_range : (irqBind s).range = s.range := rfl
@[simp] theorem irqBind_waveform : (irqBind s).waveform = s.waveform := rfl
@[simp] theorem irqBind_timerArmed : (irqBind s).timerArmed = s.timerArmed := rfl
@[simp] theorem irqBind_irqBound : (irqBind s).irqBound = true := rfl
@[simp] theorem irqBind_timerPending : (irqBind s).timerPending = s.timerPending := rfl
@[simp] theorem irqBind_phase : (irqBind s).phase = s.phase := rfl
@[simp] theorem irqBind_rx : (irqBind s).rx = s.rx := rfl
@[simp] theorem irqBind_tx : (irqBind s).tx = s.tx := rfl
@[simp] theorem irqBind_afeRange : (irqBind s).afeRange = s.afeRange := rfl
@[simp] theorem irqBind_afeWave : (irqBind s).afeWave = s.afeWave := rfl
@[simp] theorem irqBind_afeLog : (irqBind s).afeLog = s.afeLog := rfl
@[simp] theorem irqBind_oracle : (irqBind s).oracle = s.oracle := rfl

end

section

variable (s : State)

@[simp] theorem irqUnbind_isStreaming : (irqUnbind s).isStreaming = s.isStreaming := rfl
@[simp] theorem irqUnbind_sampleDue : (irqUnbind s).sampleDue = s.sampleDue := rfl
@[simp] theorem irqUnbind_range : (irqUnbind s).range = s.range := rfl
@[simp] theorem irqUnbind_waveform : (irqUnbind s).waveform = s.waveform := rfl
@[simp] theorem irqUnbind_timerArmed : (irqUnbind s).timerArmed = s.timerArmed := rfl
@[simp] theorem irqUnbind_irqBound : (irqUnbind s).irqBound = false := rfl
@[simp] theorem irqUnbind_timerPending : (irqUnbind s).timerPending = s.timerPending := rfl
@[simp] theorem irqUnbind_phase : (irqUnbind s).phase = s.phase := rfl
@[simp] theorem irqUnbind_rx : (irqUnbind s).rx = s.rx := rfl
@[simp] theorem irqUnbind_tx : (irqUnbind s).tx = s.tx := rfl
@[simp] theorem irqUnbind_afeRange : (irqUnbind s).afeRange = s.afeRange := rfl
@[simp] theorem irqUnbind_afeWave : (irqUnbind s).afeWave = s.afeWave := rfl
@[simp] theorem irqUnbind_afeLog : (irqUnbind s).afeLog = s.afeLog := rfl
@[simp] theorem irqUnbind_oracle : (irqUnbind s).oracle = s.oracle := rfl

end

section

variable (r : Range) (s : State)

@[simp] theorem acceptRange_isStreaming : (acceptRange r s).isStreaming = s.isStreaming := rfl
@[simp] theorem acceptRange_sampleDue : (acceptRange r s).sampleDue = s.sampleDue := rfl
@[simp] theorem acceptRange_range : (acceptRange r s).range = r := rfl
@[simp] theorem acceptRange_waveform : (acceptRange r s).waveform = s.waveform := rfl
@[simp] theorem acceptRange_timerArmed : (acceptRange r s).timerArmed = s.timerArmed := rfl
@[simp] theorem acceptRange_irqBound : (acceptRange r s).irqBound = s.irqBound := rfl
@[simp] theorem acceptRange_timerPending : (acceptRange r s).timerPending = s.timerPending := rfl
@[simp] theorem acceptRange_phase : (acceptRange r s).phase = s.phase := rfl
@[simp] theorem acceptRange_rx : (acceptRange r s).rx = s.rx := rfl
@[simp] theorem acceptRange_tx : (acceptRange r s).tx = s.tx := rfl
@[simp] theorem acceptRange_afeRange : (acceptRange r s).afeRange = r := rfl
@[simp] theorem acceptRange_afeWave : (acceptRange r s).afeWave = s.afeWave := rfl
@[simp] theorem acceptRange_afeLog : (acceptRange r s).afeLog = s.afeLog ++ [.setRange r] := rfl
@[simp] theorem acceptRange_oracle : (acceptRange r s).oracle = s.oracle := rfl

end

section

variable (w : Wave) (s : State)

@[simp] theorem acceptWave_isStreaming : (acceptWave w s).isStreaming = s.isStreaming := rfl
@[simp] theorem acceptWave_sampleDue : (acceptWave w s).sampleDue = s.sampleDue := rfl
@[simp] theorem acceptWave_range : (acceptWave w s).range = s.range := rfl
@[simp] theorem acceptWave_waveform : (acceptWave w s).waveform = w := rfl
@[simp] theorem acceptWave_timerArmed : (acceptWave w s).timerArmed = s.timerArmed := rfl
@[simp] theorem acceptWave_irqBound : (acceptWave w s).irqBound = s.irqBound := rfl
@[simp] theorem acceptWave_timerPending : (acceptWave w s).timerPending = s.timerPending := rfl
@[simp] theorem acceptWave_phase : (acceptWave w s).phase = s.phase := rfl
@[simp] theorem acceptWave_rx : (acceptWave w s).rx = s.rx := rfl
@[simp] theorem acceptWave_tx : (acceptWave w s).tx = s.tx := rfl
@[simp] theorem acceptWave_afeRange : (acceptWave w s).afeRange = s.afeRange := rfl
@[simp] theorem acceptWave_afeWave : (acceptWave w s).afeWave = w := rfl
@[simp] theorem acceptWave_afeLog : (acceptWave w s).afeLog = s.afeLog ++ [.selectWave w] := rfl
@[simp] theorem acceptWave_oracle : (acceptWave w s).oracle = s.oracle := rfl

end

section

variable (s : State)

@[simp] theorem advanceTurn_isStreaming : (advanceTurn s).isStreaming = s.isStreaming := rfl
@[simp] theorem advanceTurn_sampleDue : (advanceTurn s).sampleDue = s.sampleDue := rfl
@[simp] theorem advanceTurn_range : (advanceTurn s).range = s.range := rfl
@[simp] theorem advanceTurn_waveform : (advanceTurn s).waveform = s.waveform := rfl
@[simp] theorem advanceTurn_timerArmed : (advanceTurn s).timerArmed = s.timerArmed := rfl
@[simp] theorem advanceTurn_irqBound : (advanceTurn s).irqBound = s.irqBound := rfl
@[simp] theorem advanceTurn_timerPending : (advanceTurn s).timerPending = s.timerPending := rfl
@[simp] theorem advanceTurn_phase : (advanceTurn s).phase = s.phase := rfl
@[simp] theorem advanceTurn_rx : (advanceTurn s).rx = s.rx := rfl
@[simp] theorem advanceTurn_tx : (advanceTurn s).tx = s.tx := rfl
@[simp] theorem advanceTurn_afeRange : (advanceTurn s).afeRange = s.afeRange := rfl
@[simp] theorem advanceTurn_afeWave : (advanceTurn s).afeWave = s.afeWave := rfl
@[simp] theorem advanceTurn_afeLog : (advanceTurn s).afeLog = s.afeLog := rfl
@[simp] theorem advanceTurn_oracle : (advanceTurn s).oracle = { s.oracle with schedule := s.oracle.schedule.tail, turns := s.oracle.turns + 1 } := rfl

end

section

variable (o : Oracle) (s : State)

@[simp] theorem withOracle_isStreaming : (s.withOracle o).isStreaming = s.isStreaming := rfl
@[simp] theorem withOracle_sampleDue : (s.withOracle o).sampleDue = s.sampleDue := rfl
@[simp] theorem withOracle_range : (s.withOracle o).range = s.range := rfl
@[simp] theorem withOracle_waveform : (s.withOracle o).waveform = s.waveform := rfl
@[simp] theorem withOracle_timerArmed : (s.withOracle o).timerArmed = s.timerArmed := rfl
@[simp] theorem withOracle_irqBound : (s.withOracle o).irqBound = s.irqBound := rfl
@[simp] theorem withOracle_timerPending : (s.withOracle o).timerPending = s.timerPending := rfl
@[simp] theorem withOracle_phase : (s.withOracle o).phase = s.phase := rfl
@[simp] theorem withOracle_rx : (s.withOracle o).rx = s.rx := rfl
@[simp] theorem withOracle_tx : (s.withOracle o).tx = s.tx := rfl
@[simp] theorem withOracle_afeRange : (s.withOracle o).afeRange = s.afeRange := rfl
@[simp] theorem withOracle_afeWave : (s.withOracle o).afeWave = s.afeWave := rfl
@[simp] theorem withOracle_afeLog : (s.withOracle o).afeLog = s.afeLog := rfl
@[simp] theorem withOracle_oracle : (s.withOracle o).oracle = o := rfl

end

end Sys2Proof.Machine
end

