-- ==== Sys2Proof/Laws/Ops.lean ====
section
/-! SUPPORT. What each shared operation does, said once: the operations of the Streaming Controller and the setters as
the fields they write, outcomes as sequencing, and the agreement of the selector codes with the setters. -/

namespace Sys2Proof.Machine

/-! ### Sequencing -/

@[simp] theorem andThen_next (s : State) (f : State → Result) : andThen (.next s) f = f s := rfl

@[simp] theorem andThen_fault (e : Fault) (f : State → Result) : andThen (.fault e) f = .fault e := rfl

@[simp] theorem andThen_refused (e : Refusal) (f : State → Result) : andThen (.refused e) f = .refused e := rfl

/-- A sequence reaches a next state only through one. -/
theorem andThen_eq_next {r : Result} {f : State → Result} {t : State} (h : andThen r f = .next t) :
    ∃ s, r = .next s ∧ f s = .next t := by
  cases r with
  | next s => exact ⟨s, rfl, h⟩
  | fault e => cases h
  | refused e => cases h

/-- Sequencing is associative. -/
theorem andThen_assoc (r : Result) (f g : State → Result) :
    andThen (andThen r f) g = andThen r fun s => andThen (f s) g := by
  cases r <;> rfl

/-! ### The named updates as records -/

theorem startStreaming_eq (s : State) :
    startStreaming s = { s with irqBound := true, timerArmed := true, isStreaming := true } := by
  unfold startStreaming
  split
  · next h => cases s; simp_all [setStreaming, timerArm]
  · rfl

theorem stopStreaming_eq (s : State) :
    stopStreaming s =
      { s with
        timerArmed := false, timerPending := false, irqBound := false, isStreaming := false, sampleDue := false } := rfl

theorem acceptRange_eq (r : Range) (s : State) :
    acceptRange r s = { s with range := r, afeRange := r, afeLog := s.afeLog ++ [.setRange r] } := rfl

theorem acceptWave_eq (w : Wave) (s : State) :
    acceptWave w s = { s with waveform := w, afeWave := w, afeLog := s.afeLog ++ [.selectWave w] } := rfl

@[simp] theorem setRange_codeSmall (s : State) : setRange .codeSmall s = acceptRange .small s := rfl

@[simp] theorem setRange_codeLarge (s : State) : setRange .codeLarge s = acceptRange .large s := rfl

@[simp] theorem setRange_outside (code : Nat) (s : State) : setRange (.outside code) s = s := rfl

@[simp] theorem selectWave_code1 (s : State) : selectWave .code1 s = acceptWave .wave1 s := rfl

@[simp] theorem selectWave_code2 (s : State) : selectWave .code2 s = acceptWave .wave2 s := rfl

@[simp] theorem selectWave_outside (code : Nat) (s : State) : selectWave (.outside code) s = s := rfl

theorem resetController_eq (s : State) :
    resetController s = acceptWave .wave1 (acceptRange .large (stopStreaming s)) := rfl

theorem takeInterrupt_eq (s : State) :
    takeInterrupt onTimerInterrupt s = { s with sampleDue := true, timerPending := false } := rfl

/-! ### Selector codes -/

/-- The two range codes differ (30_encoding.md R80). -/
theorem rangeCodes_ne : Config.rangeCodeLarge ≠ Config.rangeCodeSmall := by
  unfold Config.rangeCodeLarge
  split
  · omega
  · assumption

/-- The two waveform codes differ (30_encoding.md R80). -/
theorem waveCodes_ne : Config.waveCode2 ≠ Config.waveCode1 := by
  unfold Config.waveCode2
  split
  · omega
  · assumption

@[simp] theorem rangeSelector_small : rangeSelector Config.rangeCodeSmall = .codeSmall := by simp [rangeSelector]

@[simp] theorem rangeSelector_large : rangeSelector Config.rangeCodeLarge = .codeLarge := by
  simp [rangeSelector, rangeCodes_ne]

@[simp] theorem waveSelector_one : waveSelector Config.waveCode1 = .code1 := by simp [waveSelector]

@[simp] theorem waveSelector_two : waveSelector Config.waveCode2 = .code2 := by simp [waveSelector, waveCodes_ne]

/-! ### The sampler -/

/-- The raw width is at least 16 bits (00_scope.md R6). -/
theorem rawWidth_ge : 16 ≤ Config.rawWidth := Nat.le_add_right 16 _

/-- A sampler value lies below `2 ^ P_RAW_WIDTH` when the draws ahead do. -/
theorem samplerValue_lt {s : State} (h : s.oracle.DrawsInRange) : samplerValue s < 2 ^ Config.rawWidth := by
  unfold samplerValue
  split
  · next v vs hv => exact h v (by simp [hv])
  · exact Nat.mod_lt _ (Nat.two_pow_pos _)

/-- `drawFits` says what its name says: the 16-bit shortcut admits nothing more. -/
theorem drawFits_iff (v : Nat) : drawFits v = true ↔ v < 2 ^ Config.rawWidth := by
  have : 2 ^ 16 ≤ 2 ^ Config.rawWidth := Nat.pow_le_pow_right (by omega) rawWidth_ge
  simp only [drawFits, Bool.or_eq_true, decide_eq_true_eq]
  omega

/-- The queue as `RxPop()` sees it. -/
theorem rxPop_cons {s : State} {c : Byte} {rest : List Byte} (h : s.rx = c :: rest) :
    rxPop s = some (c, { s with rx := rest }) := by
  simp [rxPop, rxDrop, h]

theorem rxPop_nil {s : State} (h : s.rx = []) : rxPop s = none := by simp [rxPop, h]

/-- `RxPop()` gives a byte exactly while `RxAvailable() > 0` (00_scope.md R8). -/
theorem rxPop_isSome (s : State) : (rxPop s).isSome = decide (0 < rxAvailable s) := by
  cases h : s.rx <;> simp [rxPop, rxAvailable, h]

end Sys2Proof.Machine
end

