-- ==== Sys2Proof/Laws/PerInstr.lean ====
section
/-! SUPPORT. Statements made for every instruction, one lemma per constructor. -/

namespace Sys2Proof.Laws

/-- Every command is sent as exactly one byte (30_encoding.md R75). -/
def OneByteEncoding.Statement (i : Instr) : Prop := (encode i).length = 1

theorem OneByteEncoding.connect : OneByteEncoding.Statement .connect := rfl

theorem OneByteEncoding.startStreaming : OneByteEncoding.Statement .startStreaming := rfl

theorem OneByteEncoding.stopStreaming : OneByteEncoding.Statement .stopStreaming := rfl

theorem OneByteEncoding.selectWave1 : OneByteEncoding.Statement .selectWave1 := rfl

theorem OneByteEncoding.selectWave2 : OneByteEncoding.Statement .selectWave2 := rfl

theorem OneByteEncoding.selectRangeSmall : OneByteEncoding.Statement .selectRangeSmall := rfl

theorem OneByteEncoding.selectRangeLarge : OneByteEncoding.Statement .selectRangeLarge := rfl

theorem OneByteEncoding.unknown (c : Byte) : OneByteEncoding.Statement (.unknown c) := rfl

end Sys2Proof.Laws
end

