-- ==== Sys2Proof/Laws/Step.lean ====
section
/-! SUPPORT. What a step can do, said once: each command, each MAIN micro-step and each event as the state it leads to.
Proofs about runs cite these and never unfold the machine. -/

namespace Sys2Proof.Machine

/-- What a command leads to, as one function of the state. -/
def commandEffect (i : Instr) (s : State) : State :=
  match i with
  | .connect => resetController (txAppend encodeConnection s)
  | .startStreaming => startStreaming s
  | .stopStreaming => stopStreaming s
  | .selectWave1 => acceptWave .wave1 s
  | .selectWave2 => acceptWave .wave2 s
  | .selectRangeSmall => acceptRange .small s
  | .selectRangeLarge => acceptRange .large s
  | .unknown c => txAppend (encodeError c) s

theorem exec_eq_commandEffect (i : Instr) (s : State) : exec i s = .next (commandEffect i s) := by
  cases i <;> rfl

theorem handle_eq_commandEffect (c : Byte) (s : State) : handle c s = .next (commandEffect (decode c) s) :=
  exec_eq_commandEffect _ _

/-- What a command sends, and no more (41_command_processor.md R142). -/
@[simp] theorem commandEffect_tx (i : Instr) (s : State) : (commandEffect i s).tx = s.tx ++ replyTo i := by
  cases i <;> simp [commandEffect, startStreaming_eq, resetController, stopStreaming, replyTo]

/-- No command touches the inbound queue. -/
@[simp] theorem commandEffect_rx (i : Instr) (s : State) : (commandEffect i s).rx = s.rx := by
  cases i <;> simp [commandEffect, startStreaming_eq, resetController, stopStreaming]

/-- No command touches MAIN's phase. -/
@[simp] theorem commandEffect_phase (i : Instr) (s : State) : (commandEffect i s).phase = s.phase := by
  cases i <;> simp [commandEffect, startStreaming_eq, resetController, stopStreaming]

/-- Handling bytes in order is their commands' effects in order. -/
theorem handleAll_eq (bs : List Byte) (s : State) :
    handleAll bs s = .next (bs.foldl (fun t c => commandEffect (decode c) t) s) := by
  induction bs generalizing s with
  | nil => rfl
  | cons c cs ih => simp only [handleAll, handle_eq_commandEffect, andThen_next, ih, List.foldl_cons]

/-- RX_CHECK with a byte queued. -/
theorem mainStep_rxCheck_cons {s : State} {c : Byte} {rest : List Byte} (hp : s.phase = .rxCheck)
    (hr : s.rx = c :: rest) :
    mainStep s = .next (setPhase .sampleCheck (commandEffect (decode c) { s with rx := rest })) := by
  simp [mainStep, hp, rxCheck, rxPop_cons hr, handle_eq_commandEffect]

/-- RX_CHECK with nothing queued. -/
theorem mainStep_rxCheck_nil {s : State} (hp : s.phase = .rxCheck) (hr : s.rx = []) :
    mainStep s = .next (setPhase .sampleCheck s) := by
  simp [mainStep, hp, rxCheck, rxPop_nil hr]

/-- TEST that wants a sample. -/
theorem mainStep_test_wanted {s : State} (hp : s.phase = .sampleCheck) (hw : sampleWanted s = true) :
    mainStep s = .next (setPhase .emit s) := by
  simp [mainStep, hp, testSample, hw]

/-- TEST that wants none. -/
theorem mainStep_test_unwanted {s : State} (hp : s.phase = .sampleCheck) (hw : sampleWanted s = false) :
    mainStep s = .next (setPhase .rxCheck s) := by
  simp [mainStep, hp, testSample, hw]

/-- EMIT. -/
theorem mainStep_emit {s : State} (hp : s.phase = .emit) :
    mainStep s = .next (setPhase .clear (txAppend (encodeSample (samplerValue s)) (samplerAdvance s))) := by
  simp [mainStep, hp, emitSample, samplerRead]

/-- CLEAR. -/
theorem mainStep_clear {s : State} (hp : s.phase = .clear) :
    mainStep s = .next (setPhase .rxCheck (setSampleDue false s)) := by
  simp [mainStep, hp, clearSample]

/-- Everything one MAIN micro-step can do. -/
theorem mainStep_cases {s t : State} (h : mainStep s = .next t) :
    (s.phase = .rxCheck ∧ s.rx = [] ∧ t = setPhase .sampleCheck s) ∨
    (∃ c rest, s.phase = .rxCheck ∧ s.rx = c :: rest ∧
      t = setPhase .sampleCheck (commandEffect (decode c) { s with rx := rest })) ∨
    (s.phase = .sampleCheck ∧ sampleWanted s = true ∧ t = setPhase .emit s) ∨
    (s.phase = .sampleCheck ∧ sampleWanted s = false ∧ t = setPhase .rxCheck s) ∨
    (s.phase = .emit ∧ t = setPhase .clear (txAppend (encodeSample (samplerValue s)) (samplerAdvance s))) ∨
    (s.phase = .clear ∧ t = setPhase .rxCheck (setSampleDue false s)) := by
  cases hp : s.phase with
  | rxCheck =>
    cases hr : s.rx with
    | nil =>
      rw [mainStep_rxCheck_nil hp hr] at h
      cases h
      simp
    | cons c rest =>
      rw [mainStep_rxCheck_cons hp hr] at h
      cases h
      exact .inr (.inl ⟨c, rest, rfl, rfl, by rw [hp]⟩)
  | sampleCheck =>
    cases hw : sampleWanted s with
    | true =>
      rw [mainStep_test_wanted hp hw] at h
      cases h
      simp
    | false =>
      rw [mainStep_test_unwanted hp hw] at h
      cases h
      simp
  | emit =>
    rw [mainStep_emit hp] at h
    cases h
    simp
  | clear =>
    rw [mainStep_clear hp] at h
    cases h
    simp

/-- An event that leads on is enabled, and its effect is what `performEvent` says. -/
theorem stepEvent_eq_next {e : Event} {s t : State} (h : stepEvent e s = .next t) :
    enabled e s = true ∧ performEvent e s = .next t := by
  unfold stepEvent at h
  split at h
  · next he => exact ⟨he, h⟩
  · cases h

theorem stepEvent_enabled {e : Event} {s : State} (h : enabled e s = true) : stepEvent e s = performEvent e s := by
  simp [stepEvent, h]

@[simp] theorem stepEvent_main (s : State) : stepEvent .main s = mainStep s := rfl

/-- A run of one event more. -/
@[simp] theorem runEvents_cons (e : Event) (es : List Event) (s : State) :
    runEvents (e :: es) s = andThen (stepEvent e s) (runEvents es) := rfl

@[simp] theorem runEvents_nil (s : State) : runEvents [] s = .next s := rfl

/-- Runs compose. -/
theorem runEvents_append (es fs : List Event) (s : State) :
    runEvents (es ++ fs) s = andThen (runEvents es s) (runEvents fs) := by
  induction es generalizing s with
  | nil => rfl
  | cons e es ih =>
    simp only [List.cons_append, runEvents_cons, andThen_assoc]
    congr 1
    exact funext ih

/-- What a run gathers, one event more. -/
theorem gather_cons {α : Type} (f : Event → State → List α) {e : Event} {s t : State} (es : List Event)
    (h : stepEvent e s = .next t) : gather f (e :: es) s = f e s ++ gather f es t := by
  simp [gather, h]

/-- The step of the machine in terms of events. -/
theorem step_eq (s : State) : step s = stepEvent (nextEvent s) (advanceTurn s) := rfl

@[simp] theorem enabled_advanceTurn (e : Event) (s : State) : enabled e (advanceTurn s) = enabled e s := by
  cases e <;> rfl

@[simp] theorem enabled_withOracle (e : Event) (s : State) (o : Oracle) :
    enabled e (s.withOracle o) = enabled e s := by
  cases e <;> rfl

end Sys2Proof.Machine
end

