-- ==== Sys2Proof/Tests/Slice0.lean ====
section
/-! SUPPORT. Tests: expected results are taken from spec/30_encoding.md and the vectors of spec/95_test_vectors.md, never
from the model. Then, for every obligation with hypotheses, a witness that meets them. -/

namespace Sys2Proof.Tests

open Sys2Proof Sys2Proof.Machine

/-! ### Helpers -/

/-- The next state, if there is one. -/
def next? (r : Result) : Option State :=
  match r with
  | .next s => some s
  | .fault _ => none
  | .refused _ => none

/-- A state by its status word (10_state.md R39), phase and queue, MAIN's turn next. -/
def blockAt (sw : BitVec 8) (ph : Phase) (rx : List Byte) : State :=
  { isStreaming := sw.getLsbD 0
    sampleDue := sw.getLsbD 1
    range := if sw.getLsbD 2 then .large else .small
    waveform := if sw.getLsbD 3 then .wave2 else .wave1
    timerArmed := sw.getLsbD 4
    irqBound := sw.getLsbD 5
    timerPending := sw.getLsbD 6
    phase := ph
    rx := rx
    tx := []
    afeRange := .large
    afeWave := .wave1
    afeLog := []
    oracle := { schedule := [.main], draws := [0x1234], turns := 0, reads := 0 } }

/-- What the vectors of spec/95_test_vectors.md show of a next state: status word, phase, queue and AFE log. -/
def shown (r : Result) : Option (BitVec 8 × Phase × List Byte × List AfeWrite) :=
  (next? r).map fun t => (statusWord t, t.phase, t.rx, t.afeLog)

/-- The bytes sent. -/
def sent (r : Result) : Option (List Byte) := (next? r).map State.tx

/-! ### Well-formedness: the ill-formed term of each check is refused -/

theorem test_wellFormed_refuses_unknown_of_a_command_byte : (Instr.unknown 0x76#8).wellFormed = false := by decide

theorem test_table_refuses_a_byte_twice :
    CmdTable.wellFormed [(0x76#8, .connect), (0x76#8, .startStreaming)] = false := by decide

/-- 30_encoding.md R71: a function from byte to Command may give two bytes one command. -/
theorem test_table_admits_a_command_twice :
    CmdTable.wellFormed [(0x76#8, .connect), (0x77#8, .connect)] = true ∧
      CmdTable.namesOnce [(0x76#8, .connect), (0x77#8, .connect)] = false := by decide

theorem test_table_refuses_unknown_rows : CmdTable.wellFormed [(0x41#8, .unknown 0x41#8)] = false := by decide

theorem test_decode_rejects_no_byte : decodeBytes [] = .rejected .noByte := by decide

/-! ### Decoding: words written out bit by bit from spec/opcode_table.json and 30_encoding.md R72 -/

theorem test_decode_connect : decode 0b01110110#8 = .connect := by decide

theorem test_decode_startStreaming : decode 0b01100010#8 = .startStreaming := by decide

theorem test_decode_stopStreaming : decode 0b01110011#8 = .stopStreaming := by decide

theorem test_decode_selectWave1 : decode 0b01100101#8 = .selectWave1 := by decide

theorem test_decode_selectWave2 : decode 0b01100110#8 = .selectWave2 := by decide

theorem test_decode_selectRangeSmall : decode 0b01110100#8 = .selectRangeSmall := by decide

theorem test_decode_selectRangeLarge : decode 0b01111001#8 = .selectRangeLarge := by decide

/-- Vectors E8 to E19: the bytes beside each recognised one, an uppercase letter, bit 7 set, CR and LF. -/
theorem test_decode_unknown_boundaries :
    ([0x00, 0xFF, 0x61, 0x63, 0x64, 0x67, 0x72, 0x75, 0x77, 0x78, 0x7A, 0x56, 0xF6, 0x0D, 0x0A] : List Byte).all
      (fun c => decide (decode c = .unknown c)) = true := by decide

theorem test_tableWord_reads_the_first_byte : decodeTableWord 8 0x79 = some .selectRangeLarge := by decide

theorem test_tableWord_refuses_two_bytes : decodeTableWord 16 0x79 = none := by decide

/-! ### One step on a small state for each command (95_test_vectors.md, D1 to D36) -/

/-- Example of R131: `SW 0x3F -> 0x04`. -/
theorem test_connect_resets :
    shown (step (blockAt 0x3F#8 .rxCheck [0x76#8])) =
      some (0x04#8, .sampleCheck, [], [.setRange .large, .selectWave .wave1]) := by decide

/-- D2: the reply and no sample packet. -/
theorem test_connect_replies : sent (step (blockAt 0x37#8 .rxCheck [0x76#8])) = some Config.connectReply := rfl

/-- D6; and L2: one byte per iteration. -/
theorem test_start_keeps_the_config :
    shown (step (blockAt 0x08#8 .rxCheck [0x62#8, 0x73#8])) = some (0x39#8, .sampleCheck, [0x73#8], []) := by decide

/-- S4: the pending request is kept. -/
theorem test_start_keeps_the_request :
    shown (step (blockAt 0x75#8 .rxCheck [0x62#8])) = some (0x75#8, .sampleCheck, [], []) := by decide

/-- D9. -/
theorem test_stop_discards_due_and_pending :
    shown (step (blockAt 0x7F#8 .rxCheck [0x73#8])) = some (0x0C#8, .sampleCheck, [], []) := by decide

/-- D11. -/
theorem test_selectWave1_keeps_streaming :
    shown (step (blockAt 0x3F#8 .rxCheck [0x65#8])) =
      some (0x37#8, .sampleCheck, [], [.selectWave .wave1]) := by decide

/-- D12. -/
theorem test_selectWave2_from_idle :
    shown (step (blockAt 0x04#8 .rxCheck [0x66#8])) =
      some (0x0C#8, .sampleCheck, [], [.selectWave .wave2]) := by decide

/-- D15. -/
theorem test_selectRangeSmall_keeps_due :
    shown (step (blockAt 0x37#8 .rxCheck [0x74#8])) =
      some (0x33#8, .sampleCheck, [], [.setRange .small]) := by decide

/-- D17: written although unchanged. -/
theorem test_selectRangeLarge_writes_again :
    shown (step (blockAt 0x04#8 .rxCheck [0x79#8])) =
      some (0x04#8, .sampleCheck, [], [.setRange .large]) := by decide

/-- D34: the status word is unchanged. -/
theorem test_unknown_changes_no_flag :
    shown (step (blockAt 0x3F#8 .rxCheck [0xFF#8])) = some (0x3F#8, .sampleCheck, [], []) := by decide

/-- D33: the reply holds two CRs. -/
theorem test_unknown_sends_the_raw_byte :
    sent (step (blockAt 0x04#8 .rxCheck [0x0D#8])) = some (Config.errorPrefix ++ [0x0D#8] ++ [0x0D#8, 0x0A#8]) := rfl

/-! ### The other steps (T1 to T10, P1 to P12) -/

/-- T5 and T10: at any phase, which stays. -/
theorem test_isr_at_emit : shown (stepEvent .isr (blockAt 0x77#8 .emit [])) = some (0x37#8, .emit, [], []) := by decide

/-- T4, T7: not enabled. -/
theorem test_tick_disarmed_is_stuck : shown (stepEvent .tick (blockAt 0x04#8 .rxCheck [])) = none := by decide

theorem test_isr_without_request_is_stuck : shown (stepEvent .isr (blockAt 0x35#8 .rxCheck [])) = none := by decide

/-- T1. -/
theorem test_tick_raises : shown (stepEvent .tick (blockAt 0x35#8 .rxCheck [])) = some (0x75#8, .rxCheck, [], []) := by
  decide

/-- P4: a pending request alone is no due sample. -/
theorem test_test_pending_only :
    shown (step (blockAt 0x75#8 .sampleCheck [])) = some (0x75#8, .rxCheck, [], []) := by decide

/-- P5. -/
theorem test_emit_sends_the_draw :
    sent (step (blockAt 0x37#8 .emit [])) = some [0xA0#8, 0x12#8, 0x34#8, 0xC0#8] := by decide

/-- P11: the pending request survives CLEAR. -/
theorem test_clear_keeps_the_request :
    shown (step (blockAt 0x77#8 .clear [])) = some (0x75#8, .rxCheck, [], []) := by decide

/-- X4, X3 and X2 of the Packet Encoder. -/
theorem test_encodeSample_truncates : encodeSample 0x1FFFF = [0xA0#8, 0xFF#8, 0xFF#8, 0xC0#8] := by decide

theorem test_encodeSample_data_may_equal_frame : encodeSample 0xA0C0 = [0xA0#8, 0xA0#8, 0xC0#8, 0xC0#8] := by decide

/-- A placed command is the very next step's (power-on, then StartStreaming: D4). -/
theorem test_withFetchWord_runs_next :
    shown (step (State.reset.withFetchWord 8 0x62)) = some (0x35#8, .sampleCheck, [], []) := by decide

/-- Program P3's window: a firing inside EMIT's window, then CLEAR (script lines of 30_encoding.md R81, R82). -/
theorem test_script_fire_is_stuck_when_idle : shown (runLine .fire (blockAt 0x04#8 .rxCheck [])) = none := by decide

/-! ### Witnesses: the hypotheses of each obligation can be met -/

theorem witness_UnrecognisedBytesAreUnknown : decode 0x00#8 = .unknown 0x00#8 ∧ decode 0xFF#8 = .unknown 0xFF#8 := by
  decide

theorem witness_EveryTableDecodesWhatItEncodes :
    CmdTable.wellFormed [(0x41#8, .connect)] = true ∧ CmdTable.namesOnce [(0x41#8, .connect)] = true ∧
      CmdTable.expresses [(0x41#8, .connect)] .connect = true ∧
      CmdTable.expresses [(0x41#8, .connect)] (.unknown 0x76#8) = true ∧
      ∀ row ∈ ([(0x41#8, .connect)] : CmdTable), row.1 ≠ 0x42#8 := by decide

theorem witness_CommandBytesDecodeToTheCommand : (Instr.unknown 0x61#8).wellFormed = true := by decide

theorem witness_ConnectRepliesAndResets :
    (blockAt 0x37#8 .rxCheck [0x76#8, 0x62#8]).phase = .rxCheck ∧
      (blockAt 0x37#8 .rxCheck [0x76#8, 0x62#8]).rx = 0x76#8 :: [0x62#8] := ⟨rfl, rfl⟩

theorem witness_StartStreamingArmsBindsAndStreams :
    TimerFlagsAgree (blockAt 0x75#8 .rxCheck []) ∧ (blockAt 0x75#8 .rxCheck []).isStreaming = true ∧
      DueOnlyWhileStreaming (blockAt 0x04#8 .rxCheck []) ∧ (blockAt 0x04#8 .rxCheck []).isStreaming = false :=
  ⟨⟨by decide, by decide, by decide⟩, by decide, by unfold DueOnlyWhileStreaming; decide, by decide⟩

theorem witness_StopStreamingDiscardsDueAndPending_idle :
    TimerFlagsAgree (blockAt 0x04#8 .rxCheck []) ∧ DueOnlyWhileStreaming (blockAt 0x04#8 .rxCheck []) ∧
      (blockAt 0x04#8 .rxCheck []).isStreaming = false :=
  ⟨⟨by decide, by decide, by decide⟩, by unfold DueOnlyWhileStreaming; decide, by decide⟩

theorem witness_StopStreamingDiscardsDueAndPending_run :
    ∃ t, runEvents [.main, .main] (stopStreaming (blockAt 0x77#8 .rxCheck [0x66#8])) = .next t ∧
      ∀ c ∈ gather handledBy [.main, .main] (stopStreaming (blockAt 0x77#8 .rxCheck [0x66#8])),
        decode c ≠ .startStreaming :=
  ⟨_, rfl, by decide⟩

theorem witness_UnknownSendsOneErrorPacket :
    (blockAt 0x37#8 .rxCheck [0x78#8]).phase = .rxCheck ∧ (blockAt 0x37#8 .rxCheck [0x78#8]).rx = 0x78#8 :: [] ∧
      decode 0x78#8 = .unknown 0x78#8 ∧ (blockAt 0x37#8 .rxCheck [0x78#8]).isStreaming = true ∧
      (blockAt 0x37#8 .rxCheck [0x78#8]).sampleDue = true := by decide

theorem witness_CommandsAreIndependent :
    (∃ t, exec .selectWave2 (blockAt 0x77#8 .rxCheck []) = .next t) ∧
      ∃ t, exec .stopStreaming (blockAt 0x77#8 .rxCheck []) = .next t := ⟨⟨_, rfl⟩, ⟨_, rfl⟩⟩

theorem witness_OnlyConnectAndUnknownSendBytes :
    Instr.stopStreaming ≠ .connect ∧ Instr.stopStreaming.isUnknown = false := by decide

theorem witness_InvalidSelectorsAreDroppedSilently :
    (∃ code, code ≠ Config.rangeCodeSmall ∧ code ≠ Config.rangeCodeLarge) ∧
      (∃ code, code ≠ Config.waveCode1 ∧ code ≠ Config.waveCode2) ∧ recognised 0x54#8 = false :=
  ⟨⟨Config.rangeCodeSmall + Config.rangeCodeLarge + 1, by omega, by omega⟩,
    ⟨Config.waveCode1 + Config.waveCode2 + 1, by omega, by omega⟩, by decide⟩

theorem witness_HandlerMarksDueAndAcknowledges :
    (blockAt 0x75#8 .emit []).timerPending = true ∧ (blockAt 0x75#8 .emit []).irqBound = true ∧
      TimerFlagsAgree (blockAt 0x04#8 .rxCheck []) ∧ (blockAt 0x04#8 .rxCheck []).isStreaming = false :=
  ⟨by decide, by decide, ⟨by decide, by decide, by decide⟩, by decide⟩

theorem witness_TickRaisesTheRequestWhileArmed :
    (blockAt 0x75#8 .rxCheck []).timerArmed = true ∧ (blockAt 0x75#8 .rxCheck []).timerPending = true := by decide

theorem witness_TestSelectsEmitWhenDue :
    (blockAt 0x37#8 .sampleCheck []).phase = .sampleCheck ∧ (blockAt 0x37#8 .sampleCheck []).isStreaming = true ∧
      (blockAt 0x37#8 .sampleCheck []).sampleDue = true ∧ (blockAt 0x35#8 .sampleCheck []).sampleDue = false ∧
      (blockAt 0x04#8 .sampleCheck []).isStreaming = false := by decide

theorem witness_EmitSendsOneDrawnSample :
    (blockAt 0x37#8 .emit []).phase = .emit ∧ (blockAt 0x37#8 .emit []).oracle.DrawsInRange ∧
      2 ^ Config.rawWidth - 1 < 2 ^ Config.rawWidth := by
  refine ⟨rfl, fun v hv => ?_, Nat.sub_lt (Nat.two_pow_pos _) (by decide)⟩
  have : v = 0x1234 := by simpa [blockAt] using hv
  exact (drawFits_iff v).1 (by rw [this]; rfl)

theorem witness_ClearConsumesTheSample :
    (blockAt 0x77#8 .clear []).phase = .clear ∧ (blockAt 0x77#8 .clear []).isStreaming = true ∧
      (blockAt 0x77#8 .clear []).irqBound = true ∧ (blockAt 0x77#8 .clear []).timerPending = true ∧
      (blockAt 0x77#8 .clear [0x66#8]).phase = .clear ∧ (blockAt 0x77#8 .clear [0x66#8]).rx = 0x66#8 :: [] ∧
      decode 0x66#8 ≠ .stopStreaming ∧ decode 0x66#8 ≠ .connect ∧ (blockAt 0x77#8 .clear []).rx = [] := by decide

theorem witness_SamplePacketKeepsExactlySixteenBits : (0 : Nat) < 2 ^ 16 ∧ 0xFFFF < 2 ^ 16 := by decide

theorem witness_RxCheckRunsAtMostOneCommand :
    (blockAt 0x04#8 .rxCheck []).phase = .rxCheck ∧ (blockAt 0x04#8 .rxCheck []).rx = [] ∧
      (blockAt 0x04#8 .rxCheck [0x62#8, 0x73#8]).rx = 0x62#8 :: [0x73#8] ∧
      ∃ t, exec (decode 0x62#8) { blockAt 0x04#8 .rxCheck [0x62#8, 0x73#8] with rx := [0x73#8] } = .next t :=
  ⟨rfl, rfl, rfl, _, exec_eq_commandEffect _ _⟩

theorem witness_StepRunsTheDecodedCommand :
    nextEvent (blockAt 0x04#8 .rxCheck [0x62#8]) = .main ∧ (blockAt 0x04#8 .rxCheck [0x62#8]).phase = .rxCheck ∧
      (blockAt 0x04#8 .rxCheck [0x62#8]).rx = 0x62#8 :: [] ∧ decode 0x62#8 = .startStreaming := by decide

theorem witness_EnabledEventsNeverStop : enabled .isr (blockAt 0x75#8 .clear []) = true := by decide

theorem witness_StepStopsOnlyOnEventsNotEnabled :
    (State.reset.withOracle ⟨[.isr], [], 0, 0⟩).oracle.schedule = .isr :: [] ∧
      enabled .isr (State.reset.withOracle ⟨[.isr], [], 0, 0⟩) = false ∧ State.reset.oracle.schedule = [] := by decide

theorem witness_ScheduledEventsArePerformedInOrder :
    (∃ t, runEvents [.rx 0x62#8, .main, .tick, .isr] State.reset = .next t) ∧
      ∃ f, runEvents [.rx 0x62#8, .tick] State.reset = .fault f :=
  ⟨⟨_, rfl⟩, ⟨_, rfl⟩⟩

theorem witness_IterationVisitsThePhasesInOrder :
    (blockAt 0x37#8 .rxCheck [0x66#8]).phase = .rxCheck ∧
      (next? (mainStep (blockAt 0x37#8 .rxCheck [0x66#8]))).map sampleWanted = some true ∧
      (next? (mainStep (blockAt 0x37#8 .rxCheck [0x73#8]))).map sampleWanted = some false := by decide

theorem witness_IterationsHandleOneByteEach :
    State.reset.phase = .rxCheck ∧ State.reset.sampleDue = false ∧
      (blockAt 0x37#8 .rxCheck [0x66#8, 0x78#8]).phase = .rxCheck ∧
      (blockAt 0x37#8 .rxCheck [0x66#8, 0x78#8]).sampleDue = true := ⟨rfl, rfl, rfl, rfl⟩

/-- Streaming with a sample due is reached from power-on by a byte, a MAIN micro-step, a tick and a firing. -/
theorem witness_ReachableDueOnlyWhileStreaming : ∃ s, Reachable s ∧ s.sampleDue = true ∧ s.isStreaming = true := by
  have go : ∀ {s t : State} (e : Event), Reachable s → enabled e s = true →
      performEvent e (s.withOracle .initial) = .next t → Reachable t :=
    fun {s t} e hs he hp => .after hs ⟨.initial, e, fun v hv => (by cases hv), he, hp⟩
  have h1 := go (.rx 0x62#8) Reachable.powerOn rfl rfl
  have h2 := go .main h1 rfl rfl
  have h3 := go .tick h2 rfl rfl
  have h4 := go .isr h3 rfl rfl
  exact ⟨_, h4, rfl, rfl⟩

theorem witness_ReachableTimerFlagsAgree : ∃ s, Reachable s ∧ s.timerPending = true := by
  have go : ∀ {s t : State} (e : Event), Reachable s → enabled e s = true →
      performEvent e (s.withOracle .initial) = .next t → Reachable t :=
    fun {s t} e hs he hp => .after hs ⟨.initial, e, fun v hv => (by cases hv), he, hp⟩
  have h1 := go (.rx 0x62#8) Reachable.powerOn rfl rfl
  have h2 := go .main h1 rfl rfl
  have h3 := go .tick h2 rfl rfl
  exact ⟨_, h3, rfl⟩

/-- A range write, and no waveform write, stands in the log of a reachable state. -/
theorem witness_ReachableAfeMirrorsConfig :
    ∃ s, Reachable s ∧ AfeWrite.setRange .small ∈ s.afeLog ∧ ∀ w, AfeWrite.selectWave w ∉ s.afeLog := by
  have go : ∀ {s t : State} (e : Event), Reachable s → enabled e s = true →
      performEvent e (s.withOracle .initial) = .next t → Reachable t :=
    fun {s t} e hs he hp => .after hs ⟨.initial, e, fun v hv => (by cases hv), he, hp⟩
  have h1 := go (.rx 0x74#8) Reachable.powerOn rfl rfl
  have h2 := go .main h1 rfl rfl
  refine ⟨_, h2, by decide, fun w h => ?_⟩
  have : AfeWrite.selectWave w ∈ [AfeWrite.setRange .small] := h
  simp at this

/-- The invariant holds of power-on, and of streaming with a sample due in EMIT; both steps go on. -/
theorem witness_StepKeepsInvariant :
    ∃ s t : State, Inv s ∧ s.phase = .emit ∧ step s = .next t := by
  refine ⟨{ State.reset with
      isStreaming := true, sampleDue := true, timerArmed := true, irqBound := true, timerPending := true, phase := .emit
      oracle := ⟨[.main], [], 0, 0⟩ }, _, ⟨⟨rfl, rfl, fun _ => rfl⟩, fun _ => rfl, fun _ => ⟨rfl, rfl⟩,
      ⟨rfl, rfl, rfl, rfl⟩, fun v hv => ?_⟩, rfl, rfl⟩
  cases hv

theorem witness_SampleDueIsClearedOnlyByClearAndStop :
    (∃ t, stepEvent .main (blockAt 0x37#8 .clear []) = .next t ∧ t.sampleDue = false) ∧
      (∃ t, stepEvent .main (blockAt 0x37#8 .rxCheck [0x73#8]) = .next t ∧ t.sampleDue = false) ∧
      (blockAt 0x37#8 .clear []).sampleDue = true ∧ (blockAt 0x37#8 .rxCheck [0x73#8]).sampleDue = true :=
  ⟨⟨_, rfl, rfl⟩, ⟨_, rfl, rfl⟩, rfl, rfl⟩

theorem witness_WritersOfTheStreamingFlags :
    (∃ t, stepEvent .main (blockAt 0x04#8 .rxCheck [0x62#8]) = .next t ∧
      t.isStreaming ≠ (blockAt 0x04#8 .rxCheck [0x62#8]).isStreaming) ∧
      ∃ t, stepEvent .isr (blockAt 0x75#8 .rxCheck []) = .next t ∧ t.sampleDue = true ∧
        (blockAt 0x75#8 .rxCheck []).sampleDue = false :=
  ⟨⟨_, rfl, by decide⟩, ⟨_, rfl, rfl, rfl⟩⟩

theorem witness_WritersOfOutputConfig :
    (∃ t, stepEvent .main (blockAt 0x04#8 .rxCheck [0x74#8]) = .next t ∧
      t.range ≠ (blockAt 0x04#8 .rxCheck [0x74#8]).range) ∧
      ∃ t, stepEvent .main (blockAt 0x0C#8 .rxCheck [0x76#8]) = .next t ∧
        t.waveform ≠ (blockAt 0x0C#8 .rxCheck [0x76#8]).waveform :=
  ⟨⟨_, rfl, by decide⟩, ⟨_, rfl, by decide⟩⟩

theorem witness_AgentsTouchOnlyTheirFields :
    (∃ t, stepEvent .tick (blockAt 0x35#8 .emit []) = .next t) ∧ (∃ t, stepEvent .isr (blockAt 0x77#8 .emit []) = .next t) ∧
      (∃ t, stepEvent (.rx 0x00#8) (blockAt 0x04#8 .emit []) = .next t) ∧
      (∃ t, stepEvent .main (blockAt 0x04#8 .rxCheck [0x00#8]) = .next t) ∧ Event.tick.agent ≠ .mainLoop :=
  ⟨⟨_, rfl⟩, ⟨_, rfl⟩, ⟨_, rfl⟩, ⟨_, rfl⟩, by decide⟩

theorem witness_ProduceSampleSendsOnePacketAndAbsorbsFirings :
    (blockAt 0x37#8 .sampleCheck []).phase = .sampleCheck ∧ (∀ e ∈ [Event.tick, .isr], e ≠ .main) ∧
      sampleWanted (blockAt 0x37#8 .sampleCheck []) = true ∧ sampleWanted (blockAt 0x35#8 .sampleCheck []) = false ∧
      (∃ t, runEvents (.main :: [.tick, .isr] ++ .main :: [.tick, .isr] ++ [.main]) (blockAt 0x37#8 .sampleCheck []) =
        .next t) ∧
      ∃ t, runEvents (.main :: [.tick, .isr]) (blockAt 0x35#8 .sampleCheck []) = .next t :=
  ⟨rfl, by decide, by decide, by decide, ⟨_, rfl⟩, ⟨_, rfl⟩⟩

/-- Vector K1: `fire; iter` sends one sample. -/
theorem witness_SamplesAreMinOfFiringsAndTrueTests :
    (blockAt 0x35#8 .rxCheck []).sampleDue = false ∧ (blockAt 0x35#8 .rxCheck []).phase = .rxCheck ∧
      ∃ t, runEvents [.tick, .isr, .main, .main, .main, .main] (blockAt 0x35#8 .rxCheck []) = .next t ∧
        t.phase ≠ .emit ∧
        (gather sampleMark [.tick, .isr, .main, .main, .main, .main] (blockAt 0x35#8 .rxCheck [])).length = 1 :=
  ⟨rfl, rfl, _, rfl, by decide, by decide⟩

/-- Vector K3: the second firing falls between TEST and CLEAR; one sample, two firings. -/
theorem witness_NoMoreSamplesThanFirings :
    (blockAt 0x35#8 .rxCheck []).sampleDue = false ∧ (blockAt 0x35#8 .rxCheck []).phase = .rxCheck ∧
      ∃ t, runEvents [.tick, .isr, .main, .main, .tick, .isr, .main, .main] (blockAt 0x35#8 .rxCheck []) = .next t ∧
        (gather sampleMark [.tick, .isr, .main, .main, .tick, .isr, .main, .main]
          (blockAt 0x35#8 .rxCheck [])).length = 1 :=
  ⟨rfl, rfl, _, rfl, by decide⟩

theorem witness_InboundQueueIsFifoAndLossless :
    ∃ t, runEvents [.rx 0x78#8, .main, .rx 0x62#8] State.reset = .next t ∧ t.rx = [0x62#8] := ⟨_, rfl, rfl⟩

theorem witness_OutboundLogIsTheOutputsInOrder :
    ∃ t, runEvents [.rx 0x76#8, .main] State.reset = .next t ∧ t.tx = Config.connectReply := ⟨_, rfl, rfl⟩

theorem witness_StopDropsThePendingRequestForGood :
    (∃ u, runEvents [.rx 0x62#8, .main] (stopStreaming (blockAt 0x77#8 .rxCheck [])) = .next u) ∧
      Event.tick ∉ [Event.rx 0x62#8, .main] :=
  ⟨⟨_, rfl⟩, by decide⟩

theorem witness_OutputConfigInfluencesNothingElse :
    ∃ s s' t : State, s ≠ s' ∧
      s' = { s with range := .small, waveform := .wave2, afeRange := .small, afeWave := .wave2, afeLog := [] } ∧
      runEvents [.main, .tick] s = .next t :=
  ⟨blockAt 0x35#8 .rxCheck [0x66#8], _, _, by decide, rfl, rfl⟩

theorem witness_StopBeforeSampleCheckDiscardsTheSample :
    (blockAt 0x37#8 .rxCheck [0x73#8]).phase = .rxCheck ∧ (blockAt 0x37#8 .rxCheck [0x73#8]).rx = 0x73#8 :: [] :=
  ⟨rfl, rfl⟩

theorem witness_FiringCommutesWithTheCommand :
    (blockAt 0x75#8 .rxCheck [0x62#8]).phase = .rxCheck ∧ enabled .isr (blockAt 0x75#8 .rxCheck [0x62#8]) = true ∧
      (blockAt 0x75#8 .rxCheck [0x62#8]).rx = 0x62#8 :: [] ∧ decode 0x62#8 ≠ .stopStreaming ∧
      decode 0x62#8 ≠ .connect ∧ enabled .isr (blockAt 0x75#8 .rxCheck [0x76#8]) = true ∧ decode 0x76#8 = .connect := by
  decide

theorem witness_ScriptLinesExpandAsDefined_iter :
    (blockAt 0x37#8 .rxCheck [0x66#8]).phase = .rxCheck ∧
      (next? (mainStep (blockAt 0x37#8 .rxCheck [0x66#8]))).map sampleWanted = some true ∧
      (next? (mainStep (blockAt 0x37#8 .rxCheck [0x73#8]))).map sampleWanted = some false := by decide

theorem witness_ScriptLinesExpandAsDefined :
    (blockAt 0x35#8 .rxCheck []).timerArmed = true ∧ (blockAt 0x35#8 .rxCheck []).irqBound = true ∧
      (blockAt 0x10#8 .rxCheck []).timerArmed = true ∧ (blockAt 0x10#8 .rxCheck []).irqBound = false ∧
      (blockAt 0x04#8 .rxCheck []).timerArmed = false ∧ State.reset.oracle.draws = [] ∧
      0xFFFF < 2 ^ Config.rawWidth ∧ 2 ^ Config.rawWidth ≤ 2 ^ Config.rawWidth :=
  ⟨rfl, rfl, rfl, rfl, rfl, rfl, (drawFits_iff _).1 (by rfl), Nat.le_refl _⟩

/-! ### Fair infinite runs exist -/

/-- Idle at power-on with one unknown byte queued, MAIN alone stepping. -/
def idleState : Nat → State
  | 0 => { State.reset with rx := [0x78#8] }
  | n + 1 =>
    { State.reset with
      tx := encodeError 0x78#8
      phase := if n % 2 = 0 then .sampleCheck else .rxCheck }

theorem idle_run : InfiniteRun (fun _ => .main) idleState := by
  intro n
  refine ⟨.initial, fun v hv => (by cases hv), rfl, ?_⟩
  cases n with
  | zero => rfl
  | succ n =>
    rcases Nat.mod_two_eq_zero_or_one n with h | h
    · have h' : (n + 1) % 2 = 1 := by omega
      simp only [idleState, h, h', if_true]
      rfl
    · have h' : (n + 1) % 2 = 0 := by omega
      simp only [idleState, h, h', if_true]
      rfl

theorem witness_FairRunsHandleEveryWaitingByte :
    InfiniteRun (fun _ => .main) idleState ∧ Fair (fun _ => .main) idleState ∧ 0 < (idleState 0).rx.length := by
  refine ⟨idle_run, ⟨fun n => ⟨n, Nat.le_refl _, rfl⟩, ?_, ?_⟩, by decide⟩
  · rintro ⟨n, h⟩
    have := h (n + 1) (Nat.le_succ n)
    cases this
  · intro n h
    have := h (n + 1) (Nat.le_succ n)
    cases this

/-- The cycle of a streaming run: tick, firing, then the four MAIN micro-steps. -/
def streamEvent (n : Nat) : Event :=
  match n % 6 with
  | 0 => .tick
  | 1 => .isr
  | _ => .main

/-- The state before each instant of that run; `n` counts instants, each cycle sends one sample 0. -/
def streamState (n : Nat) : State :=
  { State.reset with
    isStreaming := true
    timerArmed := true
    irqBound := true
    sampleDue := decide (2 ≤ n % 6)
    timerPending := decide (n % 6 = 1)
    phase :=
      match n % 6 with
      | 3 => .sampleCheck
      | 4 => .emit
      | 5 => .clear
      | _ => .rxCheck
    tx := (List.replicate ((n + 1) / 6) (encodeSample 0)).flatten
    oracle := ⟨[], [], 0, 1⟩ }

theorem stream_run : InfiniteRun streamEvent streamState := by
  intro n
  have hmod : n % 6 < 6 := Nat.mod_lt _ (by decide)
  have cut : ∀ k, n % 6 = k → (n + 1) % 6 = (k + 1) % 6 := fun k h => by omega
  rcases h : n % 6 with _ | _ | _ | _ | _ | _ | k
  · refine ⟨⟨[], [], 0, 1⟩, fun v hv => (by cases hv), ?_, ?_⟩
    · simp [streamEvent, streamState, h, enabled]
    · have hq : (n + 1 + 1) / 6 = (n + 1) / 6 := by omega
      simp [streamEvent, streamState, h, cut _ h, hq, performEvent, timerRaise, State.withOracle]
  · refine ⟨⟨[], [], 0, 1⟩, fun v hv => (by cases hv), ?_, ?_⟩
    · simp [streamEvent, streamState, h, enabled]
    · have hq : (n + 1 + 1) / 6 = (n + 1) / 6 := by omega
      simp [streamEvent, streamState, h, cut _ h, hq, performEvent, takeInterrupt_eq, State.withOracle]
  · refine ⟨⟨[], [], 0, 1⟩, fun v hv => (by cases hv), ?_, ?_⟩
    · simp [streamEvent, h, enabled]
    · have hq : (n + 1 + 1) / 6 = (n + 1) / 6 := by omega
      simp [streamEvent, streamState, h, cut _ h, hq, performEvent, mainStep, rxCheck, rxPop, State.reset, setPhase,
        State.withOracle]
  · refine ⟨⟨[], [], 0, 1⟩, fun v hv => (by cases hv), ?_, ?_⟩
    · simp [streamEvent, h, enabled]
    · have hq : (n + 1 + 1) / 6 = (n + 1) / 6 := by omega
      simp [streamEvent, streamState, h, cut _ h, hq, performEvent, mainStep, testSample, sampleWanted, isStreamingNow,
        setPhase, State.withOracle]
  · refine ⟨⟨[], [0], 0, 0⟩, fun v hv => ?_, ?_, ?_⟩
    · have : v = 0 := by simpa using hv
      rw [this]
      exact Nat.two_pow_pos _
    · simp [streamEvent, h, enabled]
    · have hq : (n + 1 + 1) / 6 = (n + 1) / 6 + 1 := by omega
      simp [streamEvent, streamState, h, cut _ h, hq, performEvent, mainStep, emitSample, samplerRead, samplerValue,
        samplerAdvance, txAppend, setPhase, State.withOracle, List.replicate_succ']
  · refine ⟨⟨[], [], 0, 1⟩, fun v hv => (by cases hv), ?_, ?_⟩
    · simp [streamEvent, h, enabled]
    · have hq : (n + 1 + 1) / 6 = (n + 1) / 6 := by omega
      simp [streamEvent, streamState, h, cut _ h, hq, performEvent, mainStep, clearSample, setSampleDue, setPhase,
        State.withOracle]
  · omega

theorem witness_FairStreamingRunsSendSamplesForEver :
    InfiniteRun streamEvent streamState ∧ Fair streamEvent streamState ∧ Inv (streamState 0) ∧
      ∃ n, ∀ m, n ≤ m → (streamState m).isStreaming = true := by
  refine ⟨stream_run, ⟨fun n => ⟨6 * n + 2, by omega, ?_⟩, fun _ n => ⟨6 * n, by omega, ?_⟩, fun n _ =>
    ⟨6 * n + 1, by omega, ?_⟩⟩, ⟨⟨rfl, rfl, fun _ => rfl⟩, fun _ => rfl, ?_, ⟨rfl, rfl, rfl, rfl⟩, fun v hv => ?_⟩, 0,
    fun _ _ => rfl⟩
  · simp [streamEvent, show (6 * n + 2) % 6 = 2 by omega]
  · simp [streamEvent]
  · simp [streamEvent, show (6 * n + 1) % 6 = 1 by omega]
  · rintro (h | h) <;> cases h
  · cases hv

end Sys2Proof.Tests
end

section
/-! PROOFS. What one event can do, beside Laws/Step.lean: the event cases, and the two kinds of step there are for
OutputConfig, the AFE and the streaming flag: a command, or a step that leaves them all alone. -/

namespace Sys2Proof.Machine

/-! ### Commands -/

section

variable (s : State)

@[simp] theorem startStreaming_isStreaming : (startStreaming s).isStreaming = true := rfl
@[simp] theorem startStreaming_sampleDue : (startStreaming s).sampleDue = s.sampleDue := by rw [startStreaming_eq]
@[simp] theorem startStreaming_range : (startStreaming s).range = s.range := by rw [startStreaming_eq]
@[simp] theorem startStreaming_waveform : (startStreaming s).waveform = s.waveform := by rw [startStreaming_eq]

end

/-- No command touches the oracle. -/
@[simp] theorem commandEffect_oracle (i : Instr) (s : State) : (commandEffect i s).oracle = s.oracle := by
  cases i with
  | startStreaming => simp [commandEffect, startStreaming_eq]
  | connect | stopStreaming | selectWave1 | selectWave2 | selectRangeSmall | selectRangeLarge | unknown c => rfl

/-- A command neither reads nor writes the inbound queue. -/
theorem commandEffect_withRx (i : Instr) (s : State) (q : List Byte) :
    commandEffect i { s with rx := q } = { commandEffect i s with rx := q } := by
  cases i with
  | startStreaming => simp [commandEffect, startStreaming_eq]
  | connect | stopStreaming | selectWave1 | selectWave2 | selectRangeSmall | selectRangeLarge | unknown c => rfl

/-- No command marks a sample due. -/
theorem sampleDue_of_commandEffect {i : Instr} {s : State} (h : (commandEffect i s).sampleDue = true) :
    s.sampleDue = true := by
  cases i with
  | connect | stopStreaming => cases h
  | startStreaming => rwa [commandEffect, startStreaming_sampleDue] at h
  | selectWave1 | selectWave2 | selectRangeSmall | selectRangeLarge | unknown c => exact h

/-- The commands that write `isStreaming`, each with its value (10_state.md R21). -/
theorem isStreaming_changed_by_command {i : Instr} {s : State}
    (h : (commandEffect i s).isStreaming ≠ s.isStreaming) :
    ((commandEffect i s).isStreaming = true ∧ i = .startStreaming) ∨
      ((commandEffect i s).isStreaming = false ∧ (i = .stopStreaming ∨ i = .connect)) := by
  cases i with
  | startStreaming => exact .inl ⟨rfl, rfl⟩
  | stopStreaming => exact .inr ⟨rfl, .inl rfl⟩
  | connect => exact .inr ⟨rfl, .inr rfl⟩
  | selectWave1 | selectWave2 | selectRangeSmall | selectRangeLarge | unknown c => exact absurd rfl h

/-- The commands that write the range, each with its value (10_state.md R24). -/
theorem range_changed_by_command {i : Instr} {s : State} (h : (commandEffect i s).range ≠ s.range) :
    ((commandEffect i s).range = .small ∧ i = .selectRangeSmall) ∨
      ((commandEffect i s).range = .large ∧ (i = .selectRangeLarge ∨ i = .connect)) := by
  cases i with
  | selectRangeSmall => exact .inl ⟨rfl, rfl⟩
  | selectRangeLarge => exact .inr ⟨rfl, .inl rfl⟩
  | connect => exact .inr ⟨rfl, .inr rfl⟩
  | startStreaming => exact absurd (startStreaming_range s) h
  | stopStreaming | selectWave1 | selectWave2 | unknown c => exact absurd rfl h

/-- The commands that write the waveform, each with its value (10_state.md R25). -/
theorem waveform_changed_by_command {i : Instr} {s : State} (h : (commandEffect i s).waveform ≠ s.waveform) :
    ((commandEffect i s).waveform = .wave2 ∧ i = .selectWave2) ∨
      ((commandEffect i s).waveform = .wave1 ∧ (i = .selectWave1 ∨ i = .connect)) := by
  cases i with
  | selectWave2 => exact .inl ⟨rfl, rfl⟩
  | selectWave1 => exact .inr ⟨rfl, .inl rfl⟩
  | connect => exact .inr ⟨rfl, .inr rfl⟩
  | startStreaming => exact absurd (startStreaming_waveform s) h
  | stopStreaming | selectRangeSmall | selectRangeLarge | unknown c => exact absurd rfl h

/-! ### Events -/

/-- Everything one event can do: MAIN's micro-step, the tick, the firing and HOST's byte. -/
theorem stepEvent_cases {e : Event} {s t : State} (h : stepEvent e s = .next t) :
    (e = .main ∧ mainStep s = .next t) ∨
    (e = .tick ∧ s.timerArmed = true ∧ t = timerRaise s) ∨
    (e = .isr ∧ s.timerPending = true ∧ s.irqBound = true ∧ t = onTimerInterrupt s) ∨
    (∃ b, e = .rx b ∧ t = rxAppend b s) := by
  obtain ⟨hen, hperf⟩ := stepEvent_eq_next h
  cases e with
  | main => exact .inl ⟨rfl, hperf⟩
  | tick =>
    cases hperf
    exact .inr (.inl ⟨rfl, hen, rfl⟩)
  | isr =>
    cases hperf
    obtain ⟨hpending, hbound⟩ : s.timerPending = true ∧ s.irqBound = true := by simpa [enabled] using hen
    exact .inr (.inr (.inl ⟨rfl, hpending, hbound, rfl⟩))
  | rx b =>
    cases hperf
    exact .inr (.inr (.inr ⟨b, rfl, rfl⟩))

/-- A step either is MAIN's run of a command, or leaves alone `isStreaming`, whether the timer is armed and its handler
bound, OutputConfig and the AFE. -/
theorem stepEvent_command_or_frame {e : Event} {s t : State} (h : stepEvent e s = .next t) :
    (∃ c rest, e = .main ∧ s.phase = .rxCheck ∧ s.rx = c :: rest ∧
      t = { commandEffect (decode c) s with rx := rest, phase := .sampleCheck }) ∨
    t = { s with
          sampleDue := t.sampleDue, timerPending := t.timerPending, phase := t.phase, rx := t.rx, tx := t.tx,
          oracle := t.oracle } := by
  rcases stepEvent_cases h with ⟨rfl, hmain⟩ | ⟨-, -, rfl⟩ | ⟨-, -, -, rfl⟩ | ⟨b, -, rfl⟩
  · rcases mainStep_cases hmain with ⟨-, -, rfl⟩ | ⟨c, rest, hp, hr, rfl⟩ | ⟨-, -, rfl⟩ | ⟨-, -, rfl⟩ | ⟨-, rfl⟩ |
      ⟨-, rfl⟩
    · exact .inr rfl
    · exact .inl ⟨c, rest, rfl, hp, hr, by rw [commandEffect_withRx]; rfl⟩
    · exact .inr rfl
    · exact .inr rfl
    · exact .inr rfl
    · exact .inr rfl
  · exact .inr rfl
  · exact .inr rfl
  · exact .inr rfl

end Sys2Proof.Machine
end

section
/-! PROOFS. The invariant (10_state.md R23, R26, R30): each of its parts is kept by each operation, hence by every
event, every step of the machine, and in every reachable state. -/

namespace Sys2Proof.Machine

/-! ### The last write of a log -/

@[simp] theorem lastRange_setRange (log : List AfeWrite) (r : Range) : lastRange (log ++ [.setRange r]) = some r := by
  simp [lastRange, AfeWrite.range?]

@[simp] theorem lastRange_selectWave (log : List AfeWrite) (w : Wave) :
    lastRange (log ++ [.selectWave w]) = lastRange log := by
  simp [lastRange, AfeWrite.range?]

@[simp] theorem lastWave_selectWave (log : List AfeWrite) (w : Wave) : lastWave (log ++ [.selectWave w]) = some w := by
  simp [lastWave, AfeWrite.wave?]

@[simp] theorem lastWave_setRange (log : List AfeWrite) (r : Range) :
    lastWave (log ++ [.setRange r]) = lastWave log := by
  simp [lastWave, AfeWrite.wave?]

/-- There is no last range exactly when no range was ever written. -/
theorem lastRange_eq_none_iff (log : List AfeWrite) : lastRange log = none ↔ ∀ r, AfeWrite.setRange r ∉ log := by
  simp only [lastRange, List.getLast?_eq_none_iff, List.filterMap_eq_nil_iff]
  constructor
  · intro h r hr
    exact absurd (h _ hr) nofun
  · intro h a ha
    cases a with
    | setRange r => exact absurd ha (h r)
    | selectWave w => rfl

/-- There is no last waveform exactly when no waveform was ever written. -/
theorem lastWave_eq_none_iff (log : List AfeWrite) : lastWave log = none ↔ ∀ w, AfeWrite.selectWave w ∉ log := by
  simp only [lastWave, List.getLast?_eq_none_iff, List.filterMap_eq_nil_iff]
  constructor
  · intro h w hw
    exact absurd (h _ hw) nofun
  · intro h a ha
    cases a with
    | setRange r => rfl
    | selectWave w => exact absurd ha (h w)

/-! ### The mirror of OutputConfig (R26) -/

/-- `s` with `t`'s OutputConfig and AFE. -/
def withOutputOf (t s : State) : State :=
  { s with
    range := t.range, waveform := t.waveform, afeRange := t.afeRange, afeWave := t.afeWave, afeLog := t.afeLog }

section

variable {s : State}

theorem AfeMirrored.acceptRange (h : AfeMirrored s) (r : Range) : AfeMirrored (acceptRange r s) where
  range := by simp
  wave := by simpa using h.wave
  afeRange := by simp
  afeWave := by simpa using h.afeWave

theorem AfeMirrored.acceptWave (h : AfeMirrored s) (w : Wave) : AfeMirrored (acceptWave w s) where
  range := by simpa using h.range
  wave := by simp
  afeRange := by simpa using h.afeRange
  afeWave := by simp

/-- The mirror speaks of OutputConfig and the AFE alone. -/
theorem AfeMirrored.of_sameOutput {t : State} (h : AfeMirrored s) (ht : withOutputOf s t = t) : AfeMirrored t := by
  rw [← ht]
  exact ⟨h.range, h.wave, h.afeRange, h.afeWave⟩

theorem AfeMirrored.commandEffect (h : AfeMirrored s) (i : Instr) : AfeMirrored (commandEffect i s) := by
  cases i with
  | connect =>
    have hstop : AfeMirrored (stopStreaming (txAppend encodeConnection s)) := h.of_sameOutput rfl
    exact (hstop.acceptRange .large).acceptWave .wave1
  | startStreaming => exact h.of_sameOutput (by rw [Machine.commandEffect, startStreaming_eq]; rfl)
  | stopStreaming => exact h.of_sameOutput rfl
  | selectWave1 => exact h.acceptWave .wave1
  | selectWave2 => exact h.acceptWave .wave2
  | selectRangeSmall => exact h.acceptRange .small
  | selectRangeLarge => exact h.acceptRange .large
  | unknown c => exact h.of_sameOutput rfl

/-! ### The streaming flags under commands (R23, R30) -/

theorem TimerFlagsAgree.commandEffect (h : TimerFlagsAgree s) (i : Instr) : TimerFlagsAgree (commandEffect i s) := by
  cases i with
  | connect | stopStreaming => exact ⟨rfl, rfl, nofun⟩
  | startStreaming =>
    rw [Machine.commandEffect, startStreaming_eq]
    exact ⟨rfl, rfl, fun _ => rfl⟩
  | selectWave1 | selectWave2 | selectRangeSmall | selectRangeLarge | unknown c =>
    exact ⟨h.armed, h.bound, h.pending⟩

theorem DueOnlyWhileStreaming.commandEffect (h : DueOnlyWhileStreaming s) (i : Instr) :
    DueOnlyWhileStreaming (commandEffect i s) := by
  cases i with
  | connect | stopStreaming => exact nofun
  | startStreaming => exact fun _ => rfl
  | selectWave1 | selectWave2 | selectRangeSmall | selectRangeLarge | unknown c => exact h

/-! ### The whole invariant under each operation -/

/-- A command keeps the invariant where MAIN runs it, at RX_CHECK: a stop at EMIT or CLEAR would break it. -/
theorem Inv.commandEffect (h : Inv s) (hp : s.phase = .rxCheck) (i : Instr) : Inv (commandEffect i s) where
  flags := h.flags.commandEffect i
  due := h.due.commandEffect i
  mid := by simp [MidSampleOnlyWhenDue, hp]
  mirror := h.mirror.commandEffect i
  draws := by simpa using h.draws

/-- The invariant allows any channels, any environment whose draws are in range, and any phase that has what it needs:
EMIT and CLEAR need streaming with a sample due. -/
theorem Inv.withPosition (h : Inv s) {p : Phase} {q l : List Byte} {o : Oracle}
    (hp : p = .emit ∨ p = .clear → s.isStreaming = true ∧ s.sampleDue = true) (ho : o.DrawsInRange) :
    Inv { s with phase := p, rx := q, tx := l, oracle := o } :=
  ⟨⟨h.flags.armed, h.flags.bound, h.flags.pending⟩, h.due, hp, h.mirror.of_sameOutput rfl, ho⟩

theorem Inv.setPhase (h : Inv s) {p : Phase}
    (hp : p = .emit ∨ p = .clear → s.isStreaming = true ∧ s.sampleDue = true) : Inv (setPhase p s) :=
  h.withPosition hp h.draws

theorem Inv.withChannels (h : Inv s) (q l : List Byte) : Inv { s with rx := q, tx := l } :=
  h.withPosition h.mid h.draws

theorem Inv.withOracle (h : Inv s) {o : Oracle} (ho : o.DrawsInRange) : Inv (s.withOracle o) :=
  h.withPosition h.mid ho

theorem Inv.advanceTurn (h : Inv s) : Inv (advanceTurn s) := h.withOracle h.draws

theorem Inv.samplerAdvance (h : Inv s) : Inv (samplerAdvance s) :=
  h.withOracle fun v hv => h.draws v (List.mem_of_mem_tail hv)

/-- CLEAR takes the due sample away and leaves EMIT and CLEAR in one step. -/
theorem Inv.clearSample (h : Inv s) : Inv (clearSample s) :=
  ⟨⟨h.flags.armed, h.flags.bound, h.flags.pending⟩, nofun, nofun, h.mirror.of_sameOutput rfl, h.draws⟩

/-- The tick raises a request only while the timer is armed. -/
theorem Inv.timerRaise (h : Inv s) (ha : s.timerArmed = true) : Inv (timerRaise s) :=
  ⟨⟨h.flags.armed, h.flags.bound, fun _ => ha⟩, h.due, h.mid, h.mirror.of_sameOutput rfl, h.draws⟩

/-- The handler runs only while streaming, for it is bound then only; so it may mark a sample due. -/
theorem Inv.onTimerInterrupt (h : Inv s) (hb : s.irqBound = true) : Inv (onTimerInterrupt s) :=
  have hstream : s.isStreaming = true := h.flags.bound ▸ hb
  ⟨⟨h.flags.armed, h.flags.bound, nofun⟩, fun _ => hstream, fun _ => ⟨hstream, rfl⟩,
    h.mirror.of_sameOutput rfl, h.draws⟩

/-! ### Every step keeps the invariant -/

theorem Inv.mainStep {t : State} (h : Inv s) (hst : mainStep s = .next t) : Inv t := by
  rcases mainStep_cases hst with ⟨-, -, rfl⟩ | ⟨c, rest, hp, -, rfl⟩ | ⟨-, hw, rfl⟩ | ⟨-, -, rfl⟩ | ⟨hp, rfl⟩ | ⟨-, rfl⟩
  · exact h.setPhase nofun
  · exact ((h.withChannels rest s.tx).commandEffect hp (decode c)).setPhase nofun
  · exact h.setPhase fun _ => by simpa [sampleWanted, isStreamingNow] using hw
  · exact h.setPhase nofun
  · exact (h.samplerAdvance.withChannels _ _).setPhase fun _ => h.mid (.inl hp)
  · exact h.clearSample

theorem Inv.stepEvent {e : Event} {t : State} (h : Inv s) (hst : stepEvent e s = .next t) : Inv t := by
  rcases stepEvent_cases hst with ⟨-, hmain⟩ | ⟨-, ha, rfl⟩ | ⟨-, -, hb, rfl⟩ | ⟨b, -, rfl⟩
  · exact h.mainStep hmain
  · exact h.timerRaise ha
  · exact h.onTimerInterrupt hb
  · exact h.withChannels _ _

end

/-- Settles O41: the turn is used up, then the event whose turn it is keeps the invariant. -/
theorem stepKeepsInvariant : Obligations.StepKeepsInvariant :=
  fun _ _ h hst => h.advanceTurn.stepEvent hst

end Sys2Proof.Machine
end

section
/-! PROOFS. The statements about the state's invariants and its writers, each from the facts above. -/

namespace Sys2Proof.Machine

/-- Settles O40: every flag is off, no write was made and no draw was decided. -/
theorem invariantAtPowerOn : Obligations.InvariantAtPowerOn where
  flags := ⟨rfl, rfl, nofun⟩
  due := nofun
  mid := nofun
  mirror := ⟨rfl, rfl, rfl, rfl⟩
  draws := nofun

/-- Every reachable state has the invariant, under every schedule and all draws. -/
theorem Reachable.inv {s : State} (h : Reachable s) : Inv s := by
  induction h with
  | powerOn => exact invariantAtPowerOn
  | after _ hstep ih =>
    obtain ⟨o, e, ho, hen, hperf⟩ := hstep
    have hev := stepEvent_enabled ((enabled_withOracle e _ o).trans hen)
    exact (ih.withOracle ho).stepEvent (hev.trans hperf)

/-- Settles O42: the timer's part of the invariant. -/
theorem reachableTimerFlagsAgree : Obligations.ReachableTimerFlagsAgree := by
  intro s hs
  obtain ⟨harmed, hbound, hpending⟩ := hs.inv.flags
  exact ⟨harmed.trans hbound.symm, hbound, hpending⟩

/-- Settles O43: the due sample's part of the invariant. -/
theorem reachableDueOnlyWhileStreaming : Obligations.ReachableDueOnlyWhileStreaming :=
  fun _ hs => hs.inv.due

/-- Once a range was written, the AFE's range is OutputConfig's. -/
theorem AfeMirrored.afeRange_eq {s : State} (h : AfeMirrored s) {r : Range} (hr : AfeWrite.setRange r ∈ s.afeLog) :
    s.afeRange = s.range := by
  cases hl : lastRange s.afeLog with
  | none => exact absurd hr ((lastRange_eq_none_iff _).1 hl r)
  | some r' => rw [h.afeRange, h.range, hl]; rfl

/-- Once a waveform was written, the AFE's waveform is OutputConfig's. -/
theorem AfeMirrored.afeWave_eq {s : State} (h : AfeMirrored s) {w : Wave} (hw : AfeWrite.selectWave w ∈ s.afeLog) :
    s.afeWave = s.waveform := by
  cases hl : lastWave s.afeLog with
  | none => exact absurd hw ((lastWave_eq_none_iff _).1 hl w)
  | some w' => rw [h.afeWave, h.wave, hl]; rfl

/-- Settles O44: the mirror's part of the invariant, read before and after the first write of each kind. -/
theorem reachableAfeMirrorsConfig : Obligations.ReachableAfeMirrorsConfig := by
  refine ⟨acceptRange_eq, acceptWave_eq, fun s hs => ?_⟩
  have hm : AfeMirrored s := hs.inv.mirror
  refine ⟨fun ⟨_, hr⟩ => hm.afeRange_eq hr, fun ⟨_, hw⟩ => hm.afeWave_eq hw, fun hno => ?_, fun hno => ?_⟩
  · rw [hm.afeRange, hm.range, (lastRange_eq_none_iff _).2 hno]
    exact ⟨rfl, rfl⟩
  · rw [hm.afeWave, hm.wave, (lastWave_eq_none_iff _).2 hno]
    exact ⟨rfl, rfl⟩

/-! ### Who writes which field -/

/-- Only the handler marks a sample due. -/
theorem sampleDue_set_only_by_isr {e : Event} {s t : State} (h : stepEvent e s = .next t) (hs : s.sampleDue = false)
    (ht : t.sampleDue = true) : e = .isr := by
  have hne : t.sampleDue ≠ s.sampleDue := by simp [hs, ht]
  rcases stepEvent_cases h with ⟨-, hmain⟩ | ⟨-, -, rfl⟩ | ⟨he, -⟩ | ⟨b, -, rfl⟩
  · rcases mainStep_cases hmain with ⟨-, -, rfl⟩ | ⟨c, rest, -, -, rfl⟩ | ⟨-, -, rfl⟩ | ⟨-, -, rfl⟩ | ⟨-, rfl⟩ |
      ⟨-, rfl⟩
    · exact absurd rfl hne
    · exact absurd (sampleDue_of_commandEffect ht) (by simp [hs])
    · exact absurd rfl hne
    · exact absurd rfl hne
    · exact absurd rfl hne
    · cases ht
  · exact absurd rfl hne
  · exact he
  · exact absurd rfl hne

/-- Settles O46: a step that is no command leaves `isStreaming`; of the commands three write it. -/
theorem writersOfTheStreamingFlags : Obligations.WritersOfTheStreamingFlags := by
  refine ⟨fun s t e h hne => ?_, fun s t e => sampleDue_set_only_by_isr⟩
  rcases stepEvent_command_or_frame h with ⟨c, rest, he, hp, hr, rfl⟩ | hframe
  · exact ⟨he, hp, c, rest, hr, isStreaming_changed_by_command hne⟩
  · exact absurd (congrArg State.isStreaming hframe) hne

/-- Settles O47: a step that is no command leaves OutputConfig; of the commands three write each of its fields. -/
theorem writersOfOutputConfig : Obligations.WritersOfOutputConfig := by
  refine ⟨fun s t e h hne => ?_, fun s t e h hne => ?_⟩
  · rcases stepEvent_command_or_frame h with ⟨c, rest, he, hp, hr, rfl⟩ | hframe
    · exact ⟨he, hp, c, rest, hr, range_changed_by_command hne⟩
    · exact absurd (congrArg State.range hframe) hne
  · rcases stepEvent_command_or_frame h with ⟨c, rest, he, hp, hr, rfl⟩ | hframe
    · exact ⟨he, hp, c, rest, hr, waveform_changed_by_command hne⟩
    · exact absurd (congrArg State.waveform hframe) hne

/-! ### The outbound log and the inbound queue -/

/-- EMIT sends the packet of the sample it reads. -/
theorem sentBy_main_emit {s : State} (hp : s.phase = .emit) : sentBy .main s = encodeSample (samplerValue s) := by
  simp [sentBy, hp]

/-- RX_CHECK takes the head of the queue, if there is one. -/
theorem handledBy_main_rxCheck {s : State} (hp : s.phase = .rxCheck) : handledBy .main s = s.rx.take 1 := by
  simp [handledBy, hp]

/-- MAIN takes no byte at any other phase. -/
theorem handledBy_main_of_ne {s : State} (hp : s.phase ≠ .rxCheck) : handledBy .main s = [] := by
  simp [handledBy, hp]

/-- No other agent takes a byte. -/
theorem handledBy_of_ne_main {e : Event} (he : e ≠ .main) (s : State) : handledBy e s = [] := by
  simp [handledBy, he]

/-- A step that is not EMIT sends the reply to what it handles. -/
theorem sentBy_eq_replies {e : Event} {s : State} (h : e ≠ .main ∨ s.phase ≠ .emit) :
    sentBy e s = (handledBy e s).flatMap fun c => replyTo (decode c) :=
  if_neg (not_and_or.2 h)

/-- Every step appends to the outbound log exactly what it sends. -/
theorem stepEvent_tx {e : Event} {s t : State} (h : stepEvent e s = .next t) : t.tx = s.tx ++ sentBy e s := by
  rcases stepEvent_cases h with ⟨rfl, hmain⟩ | ⟨rfl, -, rfl⟩ | ⟨rfl, -, -, rfl⟩ | ⟨b, rfl, rfl⟩
  · rcases mainStep_cases hmain with ⟨hp, hr, rfl⟩ | ⟨c, rest, hp, hr, rfl⟩ | ⟨hp, -, rfl⟩ | ⟨hp, -, rfl⟩ | ⟨hp, rfl⟩ |
      ⟨hp, rfl⟩
    · simp [sentBy_eq_replies, handledBy_main_rxCheck, hp, hr]
    · simp [sentBy_eq_replies, handledBy_main_rxCheck, hp, hr]
    · simp [sentBy_eq_replies, handledBy_main_of_ne, hp]
    · simp [sentBy_eq_replies, handledBy_main_of_ne, hp]
    · simp [sentBy_main_emit hp]
    · simp [sentBy_eq_replies, handledBy_main_of_ne, hp]
  · simp [sentBy_eq_replies, handledBy_of_ne_main]
  · simp [sentBy_eq_replies, handledBy_of_ne_main, onTimerInterrupt]
  · simp [sentBy_eq_replies, handledBy_of_ne_main]

/-- Settles O53: by induction on the run, each step appending what it sends. -/
theorem outboundLogIsTheOutputsInOrder : Obligations.OutboundLogIsTheOutputsInOrder := by
  intro es
  induction es with
  | nil =>
    intro s t h
    cases h
    simp [gather]
  | cons e es ih =>
    intro s t h
    obtain ⟨u, hstep, hrun⟩ := andThen_eq_next h
    calc hostView t = u.tx ++ gather sentBy es u := ih u t hrun
      _ = s.tx ++ sentBy e s ++ gather sentBy es u := by rw [stepEvent_tx hstep]
      _ = hostView s ++ gather sentBy (e :: es) s := by rw [gather_cons _ es hstep, List.append_assoc, hostView]

/-- MAIN's step takes from the queue the byte it handles and nothing else. -/
theorem mainStep_rx {s t : State} (h : mainStep s = .next t) : t.rx = s.rx.drop (handledBy .main s).length := by
  rcases mainStep_cases h with ⟨hp, hr, rfl⟩ | ⟨c, rest, hp, hr, rfl⟩ | ⟨hp, -, rfl⟩ | ⟨hp, -, rfl⟩ | ⟨hp, rfl⟩ |
    ⟨hp, rfl⟩
  · simp [handledBy_main_rxCheck hp, hr]
  · simp [handledBy_main_rxCheck hp, hr]
  · simp [handledBy_main_of_ne, hp]
  · simp [handledBy_main_of_ne, hp]
  · simp [handledBy_main_of_ne, hp]
  · simp [handledBy_main_of_ne, hp]

/-- Settles O48: each agent's one update, and MAIN's from the cases of its micro-step. -/
theorem agentsTouchOnlyTheirFields : Obligations.AgentsTouchOnlyTheirFields := by
  refine ⟨fun s t h => ?_, fun s t h => ?_, fun b s t h => ?_, fun s t h => mainStep_rx h, fun e s t h hagent => ?_⟩
  · obtain ⟨-, hperf⟩ := stepEvent_eq_next h
    cases hperf
    rfl
  · obtain ⟨-, hperf⟩ := stepEvent_eq_next h
    cases hperf
    rfl
  · obtain ⟨-, hperf⟩ := stepEvent_eq_next h
    cases hperf
    rfl
  · rcases stepEvent_cases h with ⟨rfl, -⟩ | ⟨-, -, rfl⟩ | ⟨-, -, -, rfl⟩ | ⟨b, -, rfl⟩
    · exact absurd rfl hagent
    · exact ⟨rfl, rfl⟩
    · exact ⟨rfl, rfl⟩
    · exact ⟨rfl, rfl⟩

/-! ### The status word -/

@[simp] theorem rangeBit_eq (r : Range) : rangeBit r = decide (r = .large) := by cases r <;> rfl

@[simp] theorem waveBit_eq (w : Wave) : waveBit w = decide (w = .wave2) := by cases w <;> rfl

/-- Settles O39: the word is the eight bits side by side. -/
theorem statusWordBits : Obligations.StatusWordBits := by
  intro s
  simp only [statusWord, BitVec.getLsbD_append, BitVec.getLsbD_ofBool, rangeBit_eq, waveBit_eq]
  simp

end Sys2Proof.Machine
end

section
/-! PROOFS. Noninterference (10_state.md R24, R25, R38): OutputConfig and the AFE are written and never read. -/

namespace Sys2Proof.Machine

/-- The two states differ at most in OutputConfig and the AFE. -/
def SameButOutput (s t : State) : Prop := s = withOutputOf s t

/-- States that differ at most there are one state with two choices of these fields. -/
theorem SameButOutput.exists_fields {s s' : State} (h : SameButOutput s s') :
    ∃ r w ar aw log, s = { s' with range := r, waveform := w, afeRange := ar, afeWave := aw, afeLog := log } :=
  ⟨_, _, _, _, _, h⟩

/-- A command leads from states that differ only there to states that differ only there. -/
theorem SameButOutput.commandEffect {s s' : State} (h : SameButOutput s s') (i : Instr) :
    SameButOutput (commandEffect i s) (commandEffect i s') := by
  obtain ⟨r, w, ar, aw, log, rfl⟩ := h.exists_fields
  cases i with
  | startStreaming => simp [SameButOutput, withOutputOf, Machine.commandEffect, startStreaming_eq]
  | connect | stopStreaming | selectWave1 | selectWave2 | selectRangeSmall | selectRangeLarge | unknown c => rfl

theorem SameButOutput.setPhase {s s' : State} (h : SameButOutput s s') (p : Phase) :
    SameButOutput (setPhase p s) (setPhase p s') := by
  obtain ⟨r, w, ar, aw, log, rfl⟩ := h.exists_fields
  rfl

theorem SameButOutput.withRx {s s' : State} (h : SameButOutput s s') (q : List Byte) :
    SameButOutput { s with rx := q } { s' with rx := q } := by
  obtain ⟨r, w, ar, aw, log, rfl⟩ := h.exists_fields
  rfl

/-- What one state can do by a MAIN micro-step, the other can: no test reads the fields they differ in. -/
theorem SameButOutput.mainStep {s s' t : State} (h : SameButOutput s s') (hst : mainStep s = .next t) :
    ∃ t', mainStep s' = .next t' ∧ SameButOutput t t' := by
  obtain ⟨r, w, ar, aw, log, rfl⟩ := h.exists_fields
  rcases mainStep_cases hst with ⟨hp, hr, rfl⟩ | ⟨c, rest, hp, hr, rfl⟩ | ⟨hp, hw, rfl⟩ | ⟨hp, hw, rfl⟩ | ⟨hp, rfl⟩ |
    ⟨hp, rfl⟩
  · exact ⟨_, mainStep_rxCheck_nil hp hr, rfl⟩
  · exact ⟨_, mainStep_rxCheck_cons hp hr, ((h.withRx rest).commandEffect (decode c)).setPhase .sampleCheck⟩
  · exact ⟨_, mainStep_test_wanted hp hw, rfl⟩
  · exact ⟨_, mainStep_test_unwanted hp hw, rfl⟩
  · exact ⟨_, mainStep_emit hp, rfl⟩
  · exact ⟨_, mainStep_clear hp, rfl⟩

/-- The simulation step: what one state can do by an event, the other can do by the same event. -/
theorem SameButOutput.stepEvent {e : Event} {s s' t : State} (h : SameButOutput s s') (hst : stepEvent e s = .next t) :
    ∃ t', stepEvent e s' = .next t' ∧ SameButOutput t t' := by
  rcases stepEvent_cases hst with ⟨rfl, hmain⟩ | ⟨rfl, ha, rfl⟩ | ⟨rfl, hpend, hb, rfl⟩ | ⟨b, rfl, rfl⟩
  · exact h.mainStep hmain
  all_goals obtain ⟨r, w, ar, aw, log, rfl⟩ := h.exists_fields
  · exact ⟨_, stepEvent_enabled ha, rfl⟩
  · exact ⟨_, stepEvent_enabled (Bool.and_eq_true_iff.2 ⟨hpend, hb⟩), rfl⟩
  · exact ⟨_, stepEvent_enabled rfl, rfl⟩

/-- The simulation over a whole run. -/
theorem SameButOutput.runEvents {es : List Event} {s s' t : State} (h : SameButOutput s s')
    (hrun : runEvents es s = .next t) : ∃ t', runEvents es s' = .next t' ∧ SameButOutput t t' := by
  induction es generalizing s s' with
  | nil =>
    cases hrun
    exact ⟨s', rfl, h⟩
  | cons e es ih =>
    obtain ⟨u, hstep, hrest⟩ := andThen_eq_next hrun
    obtain ⟨u', hstep', hu⟩ := h.stepEvent hstep
    obtain ⟨t', hrest', ht⟩ := ih hu hrest
    exact ⟨t', by rw [runEvents_cons, hstep', andThen_next, hrest'], ht⟩

/-- Settles O55: the simulation, from two choices of the same five fields. -/
theorem outputConfigInfluencesNothingElse : Obligations.OutputConfigInfluencesNothingElse := by
  rintro es s t s' r w ar aw log rfl hrun
  exact SameButOutput.runEvents (s := s) rfl hrun

end Sys2Proof.Machine
end

section
/-! PROOFS. What adds up over every run: the samples against the firings (20_memory.md R59), and the inbound queue
(R61). Each is a fact about one event, then the induction over the run. -/

namespace Sys2Proof.Machine

/-- What holds of the empty run, and of a run of one event more whenever it holds of the rest, holds of every run. -/
theorem runEvents_induction {P : List Event → State → State → Prop} (nil : ∀ s, P [] s s)
    (cons : ∀ {e es s u t}, stepEvent e s = .next u → P es u t → P (e :: es) s t)
    {es : List Event} {s t : State} (h : runEvents es s = .next t) : P es s t := by
  induction es generalizing s with
  | nil =>
    cases h
    exact nil _
  | cons e es ih =>
    obtain ⟨u, hstep, hrun⟩ := andThen_eq_next h
    exact cons hstep (ih hrun)

/-! ### The inbound queue (R61) -/

/-- The bytes an event handles are the first of the queue. -/
theorem handledBy_prefix (e : Event) (s : State) : handledBy e s <+: s.rx := by
  unfold handledBy
  split
  · exact List.take_prefix 1 s.rx
  · exact List.nil_prefix

/-- What an event appends to the queue and what it takes from it: MAIN takes the head and appends nothing, HOST appends
at the end, and the timer and the handler do neither. -/
theorem stepEvent_rx {e : Event} {s t : State} (h : stepEvent e s = .next t) :
    s.rx ++ bytesIn e = handledBy e s ++ t.rx := by
  rcases stepEvent_cases h with ⟨rfl, hmain⟩ | ⟨rfl, -, rfl⟩ | ⟨rfl, -, -, rfl⟩ | ⟨b, rfl, rfl⟩
  · rw [mainStep_rx hmain, bytesIn, List.append_nil]
    exact (List.prefix_iff_eq_append.1 (handledBy_prefix .main s)).symm
  · simp [bytesIn, handledBy_of_ne_main]
  · simp [bytesIn, handledBy_of_ne_main, onTimerInterrupt]
  · simp [bytesIn, handledBy_of_ne_main]

/-- Settles O52: by induction on the run, the bytes of the first event beside those of the rest. -/
theorem inboundQueueIsFifoAndLossless : Obligations.InboundQueueIsFifoAndLossless := by
  intro es s t h
  refine runEvents_induction (P := fun es s t => s.rx ++ es.flatMap bytesIn = gather handledBy es s ++ t.rx)
    (fun s => by simp [gather]) ?_ h
  intro e es s u t hstep ih
  calc s.rx ++ (e :: es).flatMap bytesIn = s.rx ++ bytesIn e ++ es.flatMap bytesIn := by simp
    _ = handledBy e s ++ (u.rx ++ es.flatMap bytesIn) := by rw [stepEvent_rx hstep, List.append_assoc]
    _ = gather handledBy (e :: es) s ++ t.rx := by rw [ih, gather_cons _ es hstep, List.append_assoc]

/-! ### Samples and firings (R59) -/

/-- The samples owed: one between a TEST that read true and its EMIT. -/
def owed (s : State) : Nat := if s.phase = .emit then 1 else 0

/-- The firings in `sampleDue` that a TEST may still read. From a true TEST to its CLEAR there is none: that firing is
consumed already, and a later one is absorbed (R59 (b), (c)). -/
def unread (s : State) : Nat := if s.sampleDue = true ∧ s.phase ≠ .emit ∧ s.phase ≠ .clear then 1 else 0

theorem owed_of_ne_emit {s : State} (h : s.phase ≠ .emit) : owed s = 0 := if_neg h

theorem unread_of_not_due {s : State} (h : s.sampleDue = false) : unread s = 0 := by simp [unread, h]

/-- The flag holds one firing at most: this is the coalescing of R59 (c). -/
theorem unread_le_one (s : State) : unread s ≤ 1 := by
  unfold unread
  split <;> decide

/-- A command at RX_CHECK may drop an unread firing and makes none. -/
theorem unread_le_of_rxCheck {s t : State} (hdue : t.sampleDue = true → s.sampleDue = true) (hp : s.phase = .rxCheck) :
    unread t ≤ unread s := by
  by_cases ht : t.sampleDue = true
  · have hs : unread s = 1 := by simp [unread, hdue ht, hp]
    exact hs ▸ unread_le_one t
  · simp [unread_of_not_due (Bool.eq_false_iff.2 ht)]

/-- TEST reads true only from a set flag. -/
theorem sampleDue_of_sampleWanted {s : State} (h : sampleWanted s = true) : s.sampleDue = true :=
  (Bool.and_eq_true_iff.1 h).2

/-- The books of samples, true TESTs and firings over a stretch of a run from `s` to `t`. -/
structure SampleBooks (samples tests firings : Nat) (s t : State) : Prop where
  /-- Each true TEST gives one sample, sent or still owed. -/
  sent : samples + owed t = tests + owed s
  /-- Each true TEST reads a firing that no TEST read before. -/
  read : tests + unread t ≤ firings + unread s

/-- Books of two stretches, one after the other, add up. -/
theorem SampleBooks.trans {a b c a' b' c' : Nat} {s u t : State} (h : SampleBooks a b c s u)
    (h' : SampleBooks a' b' c' u t) : SampleBooks (a + a') (b + b') (c + c') s t where
  sent := by have := h.sent; have := h'.sent; omega
  read := by have := h.read; have := h'.read; omega

/-- Each MAIN micro-step keeps the books: a true TEST reads the firing and owes its sample, EMIT sends it, and no other
micro-step counts. -/
theorem mainStep_sampleBooks {s t : State} (h : mainStep s = .next t) :
    SampleBooks (sampleMark .main s).length (trueTestMark .main s).length 0 s t := by
  rcases mainStep_cases h with ⟨hp, -, rfl⟩ | ⟨c, rest, hp, -, rfl⟩ | ⟨hp, hw, rfl⟩ | ⟨hp, hw, rfl⟩ | ⟨hp, rfl⟩ |
    ⟨hp, rfl⟩
  · constructor <;> simp [sampleMark, trueTestMark, owed, unread, hp]
  · have hdue : (commandEffect (decode c) { s with rx := rest }).sampleDue = true → s.sampleDue = true :=
      sampleDue_of_commandEffect
    constructor
    · simp [sampleMark, trueTestMark, owed, hp]
    · simpa [trueTestMark, hp] using
        unread_le_of_rxCheck (t := setPhase .sampleCheck (commandEffect (decode c) { s with rx := rest })) hdue hp
  · constructor <;> simp [sampleMark, trueTestMark, owed, unread, hp, hw, sampleDue_of_sampleWanted hw]
  · constructor <;> simp [sampleMark, trueTestMark, owed, unread, hp, hw]
  · constructor <;> simp [sampleMark, trueTestMark, owed, unread, hp]
  · constructor <;> simp [sampleMark, trueTestMark, owed, unread, hp]

/-- Each event keeps the books: beside MAIN's micro-steps only the handler counts. -/
theorem stepEvent_sampleBooks {e : Event} {s t : State} (h : stepEvent e s = .next t) :
    SampleBooks (sampleMark e s).length (trueTestMark e s).length (firingMark e s).length s t := by
  rcases stepEvent_cases h with ⟨rfl, hmain⟩ | ⟨rfl, -, rfl⟩ | ⟨rfl, -, -, rfl⟩ | ⟨b, rfl, rfl⟩
  · exact mainStep_sampleBooks hmain
  · exact ⟨rfl, Nat.le_refl _⟩
  · exact ⟨rfl, (Nat.add_le_add_left (unread_le_one _) 0).trans (Nat.le_add_right 1 _)⟩
  · exact ⟨rfl, Nat.le_refl _⟩

/-- Every run keeps the books, from every state. -/
theorem runEvents_sampleBooks {es : List Event} {s t : State} (h : runEvents es s = .next t) :
    SampleBooks (gather sampleMark es s).length (gather trueTestMark es s).length (gather firingMark es s).length
      s t := by
  refine runEvents_induction (P := fun es s t => SampleBooks (gather sampleMark es s).length
    (gather trueTestMark es s).length (gather firingMark es s).length s t) (fun s => ⟨rfl, Nat.le_refl _⟩) ?_ h
  intro e es s u t hstep ih
  simpa only [gather_cons _ es hstep, List.length_append] using (stepEvent_sampleBooks hstep).trans ih

/-- A run that begins with nothing due, outside EMIT, begins with empty books: each sample has its true TEST, and each
true TEST its firing. -/
theorem runEvents_counts {es : List Event} {s t : State} (h : runEvents es s = .next t) (hdue : s.sampleDue = false)
    (hp : s.phase = .rxCheck ∨ s.phase = .sampleCheck) :
    (gather sampleMark es s).length + owed t = (gather trueTestMark es s).length ∧
      (gather trueTestMark es s).length ≤ (gather firingMark es s).length := by
  obtain ⟨hsent, hread⟩ := runEvents_sampleBooks h
  have howed : owed s = 0 := owed_of_ne_emit (by rcases hp with hp | hp <;> simp [hp])
  rw [howed, Nat.add_zero] at hsent
  rw [unread_of_not_due hdue] at hread
  exact ⟨hsent, (Nat.le_add_right _ _).trans hread⟩

/-- Settles O51: the samples sent are at most the true TESTs, which are at most the firings. -/
theorem noMoreSamplesThanFirings : Obligations.NoMoreSamplesThanFirings := by
  intro es s t hdue hp hrun
  obtain ⟨hsent, hread⟩ := runEvents_counts hrun hdue hp
  exact ((Nat.le_add_right _ _).trans_eq hsent).trans hread

/-- Settles O50: outside EMIT nothing is owed, so the samples are the true TESTs, which are the lesser count. -/
theorem samplesAreMinOfFiringsAndTrueTests : Obligations.SamplesAreMinOfFiringsAndTrueTests := by
  intro es s t hdue hp hrun hend
  obtain ⟨hsent, hread⟩ := runEvents_counts hrun hdue hp
  rw [owed_of_ne_emit hend, Nat.add_zero] at hsent
  rw [hsent, Nat.min_eq_right hread]

end Sys2Proof.Machine
end

section
/-! PROOFS. The decoder and the encoder (30_encoding.md R71 to R75): a table as a function from byte to command, its
two directions, and the statements about the default table as instances. -/

namespace Sys2Proof

/-! ### Decoding by a table -/

/-- With no row left the byte is Unknown and carries itself. -/
@[simp] theorem decodeWith_nil (c : Byte) : decodeWith [] c = .unknown c := rfl

/-- The first row decides its own byte and no other. -/
theorem decodeWith_cons (k : Byte) (i : Instr) (rows : CmdTable) (c : Byte) :
    decodeWith ((k, i) :: rows) c = if c = k then i else decodeWith rows c := by
  rw [decodeWith, List.lookup_cons]
  split
  · next h => simp [eq_of_beq h]
  · next h => rw [if_neg (beq_eq_false_iff_ne.1 h), decodeWith]

theorem decodeWith_of_lookup_some {table : CmdTable} {c : Byte} {i : Instr} (h : table.lookup c = some i) :
    decodeWith table c = i := by
  simp [decodeWith, h]

theorem decodeWith_of_lookup_none {table : CmdTable} {c : Byte} (h : table.lookup c = none) :
    decodeWith table c = .unknown c := by
  simp [decodeWith, h]

/-- The row that looking a byte up finds. -/
theorem mem_of_lookup {table : CmdTable} {c : Byte} {i : Instr} (h : table.lookup c = some i) : (c, i) ∈ table := by
  obtain ⟨before, after, rfl, -⟩ := List.lookup_eq_some_iff.1 h
  simp

/-- What a list of rows must meet to be a configuration table, as propositions. -/
theorem CmdTable.wellFormed_iff (table : CmdTable) :
    CmdTable.wellFormed table = true ↔
      (table.map Prod.fst).Nodup ∧ ∀ row ∈ table, row.2.isUnknown = false := by
  simp [CmdTable.wellFormed]

/-- Where no byte is listed twice, a row is what looking its byte up finds. -/
theorem lookup_of_mem {table : CmdTable} (hkeys : (table.map Prod.fst).Nodup) {c : Byte} {i : Instr}
    (h : (c, i) ∈ table) : table.lookup c = some i := by
  obtain ⟨j, hj⟩ : ∃ j, table.lookup c = some j :=
    Option.isSome_iff_exists.1 (List.lookup_isSome_iff.2 ⟨(c, i), h, beq_self_eq_true c⟩)
  have hrow : (c, j) = (c, i) := List.inj_on_of_nodup_map hkeys (mem_of_lookup hj) h rfl
  cases hrow
  exact hj

/-- A byte no row lists is not found. -/
theorem lookup_of_not_listed {table : CmdTable} {c : Byte} (h : ∀ row ∈ table, row.1 ≠ c) : table.lookup c = none :=
  List.lookup_eq_none_iff.2 fun row hrow => bne_iff_ne.2 (h row hrow).symm

/-! ### Encoding by a table -/

/-- `Unknown` is not looked up: it is encoded as the byte it carries. -/
@[simp] theorem encodeWith_unknown (table : CmdTable) (c : Byte) : encodeWith table (.unknown c) = some c := rfl

/-- A command that is not `Unknown` is encoded by the first row that has it. -/
theorem encodeWith_of_known (table : CmdTable) {i : Instr} (h : i.isUnknown = false) :
    encodeWith table i = (table.find? fun row => row.2 == i).map Prod.fst := by
  cases i with
  | unknown c => cases h
  | connect | startStreaming | stopStreaming | selectWave1 | selectWave2 | selectRangeSmall | selectRangeLarge => rfl

/-- A table expresses a command that is not `Unknown` when some row has it. -/
theorem expresses_of_known (table : CmdTable) {i : Instr} (h : i.isUnknown = false) :
    CmdTable.expresses table i = true ↔ ∃ c, (c, i) ∈ table := by
  have hany : CmdTable.expresses table i = table.any fun row => row.2 == i := by
    cases i with
    | unknown c => cases h
    | connect | startStreaming | stopStreaming | selectWave1 | selectWave2 | selectRangeSmall | selectRangeLarge => rfl
  simp [hany]

/-- A table expresses `Unknown` of the bytes it does not list. -/
theorem expresses_unknown (table : CmdTable) (c : Byte) :
    CmdTable.expresses table (.unknown c) = true ↔ table.lookup c = none := by
  simp [CmdTable.expresses]

/-- A listed command has a byte, and some row gives that byte that command. -/
theorem encodeWith_of_listed {table : CmdTable} {b : Byte} {i : Instr} (h : (b, i) ∈ table) (hi : i.isUnknown = false) :
    ∃ c, encodeWith table i = some c ∧ (c, i) ∈ table := by
  have hsome : (table.find? fun row => row.2 == i).isSome := List.find?_isSome.2 ⟨(b, i), h, beq_self_eq_true i⟩
  obtain ⟨⟨c, j⟩, hfind⟩ := Option.isSome_iff_exists.1 hsome
  have hj : j = i := by simpa using List.find?_some hfind
  subst hj
  exact ⟨c, by rw [encodeWith_of_known table hi, hfind]; rfl, List.mem_of_find?_eq_some hfind⟩

/-! ### The two directions (R71, R75) -/

/-- Decoding undoes encoding: every command a table expresses has a byte that decodes to it. -/
theorem exists_byte_of_expresses {table : CmdTable} (hwf : CmdTable.wellFormed table = true) {i : Instr}
    (h : CmdTable.expresses table i = true) : ∃ c, encodeWith table i = some c ∧ decodeWith table c = i := by
  obtain ⟨hkeys, -⟩ := table.wellFormed_iff.1 hwf
  cases hi : i.isUnknown with
  | true =>
    cases i with
    | unknown c => exact ⟨c, rfl, decodeWith_of_lookup_none ((expresses_unknown table c).1 h)⟩
    | connect | startStreaming | stopStreaming | selectWave1 | selectWave2 | selectRangeSmall | selectRangeLarge =>
      cases hi
  | false =>
    obtain ⟨b, hb⟩ := (expresses_of_known table hi).1 h
    obtain ⟨c, henc, hc⟩ := encodeWith_of_listed hb hi
    exact ⟨c, henc, decodeWith_of_lookup_some (lookup_of_mem hkeys hc)⟩

/-- Every byte decodes to a command the table expresses. -/
theorem expresses_decodeWith {table : CmdTable} (hwf : CmdTable.wellFormed table = true) (c : Byte) :
    CmdTable.expresses table (decodeWith table c) = true := by
  obtain ⟨-, hknown⟩ := table.wellFormed_iff.1 hwf
  cases hl : table.lookup c with
  | none =>
    rw [decodeWith_of_lookup_none hl]
    exact (expresses_unknown table c).2 hl
  | some i =>
    have hmem := mem_of_lookup hl
    rw [decodeWith_of_lookup_some hl]
    exact (expresses_of_known table (hknown _ hmem)).2 ⟨c, hmem⟩

/-- Encoding undoes decoding where no command has two bytes. -/
theorem encodeWith_decodeWith {table : CmdTable} (hwf : CmdTable.wellFormed table = true)
    (honce : CmdTable.namesOnce table = true) (c : Byte) : encodeWith table (decodeWith table c) = some c := by
  obtain ⟨-, hknown⟩ := table.wellFormed_iff.1 hwf
  cases hl : table.lookup c with
  | none => rw [decodeWith_of_lookup_none hl, encodeWith_unknown]
  | some i =>
    have hmem := mem_of_lookup hl
    obtain ⟨b, henc, hb⟩ := encodeWith_of_listed hmem (hknown _ hmem)
    have hrow : (b, i) = (c, i) := List.inj_on_of_nodup_map (of_decide_eq_true honce) hb hmem rfl
    rw [decodeWith_of_lookup_some hl, henc, (Prod.mk.inj hrow).1]

/-- Settles O3: the two directions above, and a byte no row lists. -/
theorem everyTableDecodesWhatItEncodes : Obligations.EveryTableDecodesWhatItEncodes := fun _ hwf =>
  ⟨fun _ => exists_byte_of_expresses hwf, expresses_decodeWith hwf, encodeWith_decodeWith hwf,
    fun _ hc => decodeWith_of_lookup_none (lookup_of_not_listed hc)⟩

/-! ### The default table (R72, R73) -/

/-- Settles O1: the table's rows, one after the other. -/
theorem defaultTableDecodesEachByte : Obligations.DefaultTableDecodesEachByte := by
  intro c
  simp only [decode, defaultTable, decodeWith_cons, decodeWith_nil]

/-- The bytes that a well-formed table decodes to `Unknown` are those no row lists. -/
theorem decodeWith_eq_unknown_iff {table : CmdTable} (hwf : CmdTable.wellFormed table = true) (c : Byte) :
    decodeWith table c = .unknown c ↔ ∀ row ∈ table, row.1 ≠ c := by
  obtain ⟨hkeys, hknown⟩ := table.wellFormed_iff.1 hwf
  constructor
  · rintro h ⟨b, i⟩ hmem rfl
    rw [decodeWith_of_lookup_some (lookup_of_mem hkeys hmem)] at h
    exact absurd (hknown _ hmem) (by simp [h, Instr.isUnknown])
  · exact fun h => decodeWith_of_lookup_none (lookup_of_not_listed h)

/-- The bytes of the default table that are no command (R73). -/
theorem decode_eq_unknown_iff (c : Byte) :
    decode c = .unknown c ↔
      c ≠ 0x76#8 ∧ c ≠ 0x62#8 ∧ c ≠ 0x73#8 ∧ c ≠ 0x65#8 ∧ c ≠ 0x66#8 ∧ c ≠ 0x74#8 ∧ c ≠ 0x79#8 := by
  rw [decode, decodeWith_eq_unknown_iff defaultTable_wellFormed]
  simp [defaultTable, eq_comm]

/-- A byte decodes to `Unknown` of nothing but itself. -/
theorem decode_isUnknown_iff (c : Byte) : (decode c).isUnknown = true ↔ decode c = .unknown c := by
  constructor
  · intro h
    cases hl : defaultTable.lookup c with
    | none => exact decodeWith_of_lookup_none hl
    | some i =>
      obtain ⟨-, hknown⟩ := (CmdTable.wellFormed_iff _).1 defaultTable_wellFormed
      rw [decode, decodeWith_of_lookup_some hl, hknown _ (mem_of_lookup hl)] at h
      cases h
  · intro h
    rw [h]
    rfl

/-- The seven listed bytes taken from the 256 leave 249 that are `Unknown` (R73). -/
theorem length_filter_decode_isUnknown :
    ((List.range 256).filter fun n => (decode (BitVec.ofNat 8 n)).isUnknown).length = 249 := by
  have hset : ((Finset.range 256).filter fun n => (decode (BitVec.ofNat 8 n)).isUnknown = true) =
      Finset.range 256 \ {0x76, 0x62, 0x73, 0x65, 0x66, 0x74, 0x79} := by
    ext n
    simp only [Finset.mem_filter, Finset.mem_sdiff, Finset.mem_range, Finset.mem_insert, Finset.mem_singleton,
      decode_isUnknown_iff, decode_eq_unknown_iff]
    bv_omega
  calc _ = ((Finset.range 256).filter fun n => (decode (BitVec.ofNat 8 n)).isUnknown = true).card := by
        simp [Finset.card_def, Finset.filter_val, Finset.range_val, Multiset.range]
    _ = 256 - 7 := by
        rw [hset, Finset.card_sdiff_of_subset (by simp [Finset.insert_subset_iff]), Finset.card_range]
        rfl

/-- Settles O2: the ranges lie between the seven listed bytes, and the error packet is what `Unknown` comes to. -/
theorem unrecognisedBytesAreUnknown : Obligations.UnrecognisedBytesAreUnknown := by
  refine ⟨fun c => ?_, length_filter_decode_isUnknown, fun c s h => ?_⟩
  · rw [decode_eq_unknown_iff]
    bv_omega
  · rw [Machine.handle_eq_commandEffect, h]
    rfl

/-- A command is well formed exactly when the default table expresses it. -/
theorem expresses_defaultTable (i : Instr) : CmdTable.expresses defaultTable i = i.wellFormed := by
  cases i with
  | unknown c => simp [CmdTable.expresses, Instr.wellFormed, recognised]
  | connect | startStreaming | stopStreaming | selectWave1 | selectWave2 | selectRangeSmall | selectRangeLarge => rfl

/-- A well-formed command's byte decodes to it: the default table's case of the first direction. -/
theorem decode_encodeByte {i : Instr} (h : i.wellFormed = true) : decode (encodeByte i) = i := by
  obtain ⟨c, henc, hdec⟩ := exists_byte_of_expresses defaultTable_wellFormed ((expresses_defaultTable i).trans h)
  cases (encodeWith_defaultTable i).symm.trans henc
  exact hdec

/-- Settles O4: decoding looks at the first byte alone, and a command's first byte is its only one. -/
theorem commandBytesDecodeToTheCommand : Obligations.CommandBytesDecodeToTheCommand := by
  refine ⟨decodeBytes_cons, fun i rest h => ⟨rfl, ?_⟩⟩
  rw [encode, List.singleton_append, decodeBytes_cons, decode_encodeByte h]

end Sys2Proof
end

section
/-! PROOFS. The selectors (30_encoding.md R80), the machine's step over a schedule (R81; 43_dispatch_loop.md R188), and
the lines of a script (R81, R82). -/

namespace Sys2Proof.Machine

/-! ### Selectors (R80) -/

/-- A range selector is read as one of its two codes, or lies outside. -/
theorem rangeSelector_cases (code : Nat) :
    (code = Config.rangeCodeSmall ∧ rangeSelector code = .codeSmall) ∨
    (code = Config.rangeCodeLarge ∧ rangeSelector code = .codeLarge) ∨
    (code ≠ Config.rangeCodeSmall ∧ code ≠ Config.rangeCodeLarge ∧ rangeSelector code = .outside code) := by
  by_cases hsmall : code = Config.rangeCodeSmall
  · exact .inl ⟨hsmall, by rw [hsmall, rangeSelector_small]⟩
  · by_cases hlarge : code = Config.rangeCodeLarge
    · exact .inr (.inl ⟨hlarge, by rw [hlarge, rangeSelector_large]⟩)
    · exact .inr (.inr ⟨hsmall, hlarge, by rw [rangeSelector, if_neg hsmall, if_neg hlarge]⟩)

/-- A waveform selector is read as one of its two codes, or lies outside. -/
theorem waveSelector_cases (code : Nat) :
    (code = Config.waveCode1 ∧ waveSelector code = .code1) ∨
    (code = Config.waveCode2 ∧ waveSelector code = .code2) ∨
    (code ≠ Config.waveCode1 ∧ code ≠ Config.waveCode2 ∧ waveSelector code = .outside code) := by
  by_cases hone : code = Config.waveCode1
  · exact .inl ⟨hone, by rw [hone, waveSelector_one]⟩
  · by_cases htwo : code = Config.waveCode2
    · exact .inr (.inl ⟨htwo, by rw [htwo, waveSelector_two]⟩)
    · exact .inr (.inr ⟨hone, htwo, by rw [waveSelector, if_neg hone, if_neg htwo]⟩)

/-- Settles O15: each code is read as itself, and the three readings exclude each other. -/
theorem selectorsAreValidIffListed : Obligations.SelectorsAreValidIffListed := by
  refine ⟨rangeCodes_ne.symm, waveCodes_ne.symm, fun code => ?_, fun code => ?_, fun code => ?_, fun code => ?_⟩
  · rcases rangeSelector_cases code with ⟨rfl, h⟩ | ⟨rfl, h⟩ | ⟨hsmall, -, h⟩
    · simp
    · simp [rangeCodes_ne]
    · simp [h, hsmall]
  · rcases rangeSelector_cases code with ⟨rfl, h⟩ | ⟨rfl, h⟩ | ⟨-, hlarge, h⟩
    · simp [rangeCodes_ne.symm]
    · simp
    · simp [h, hlarge]
  · rcases waveSelector_cases code with ⟨rfl, h⟩ | ⟨rfl, h⟩ | ⟨hone, -, h⟩
    · simp
    · simp [waveCodes_ne]
    · simp [h, hone]
  · rcases waveSelector_cases code with ⟨rfl, h⟩ | ⟨rfl, h⟩ | ⟨-, htwo, h⟩
    · simp [waveCodes_ne.symm]
    · simp
    · simp [h, htwo]

/-! ### Where a step stops (R81; 43_dispatch_loop.md R182, R188) -/

/-- MAIN's micro-step is total. -/
theorem exists_mainStep (s : State) : ∃ t, mainStep s = .next t := by
  cases hp : s.phase with
  | rxCheck =>
    cases hr : s.rx with
    | nil => exact ⟨_, mainStep_rxCheck_nil hp hr⟩
    | cons c rest => exact ⟨_, mainStep_rxCheck_cons hp hr⟩
  | sampleCheck =>
    cases hw : sampleWanted s with
    | true => exact ⟨_, mainStep_test_wanted hp hw⟩
    | false => exact ⟨_, mainStep_test_unwanted hp hw⟩
  | emit => exact ⟨_, mainStep_emit hp⟩
  | clear => exact ⟨_, mainStep_clear hp⟩

/-- Every agent's step is total. -/
theorem exists_performEvent (e : Event) (s : State) : ∃ t, performEvent e s = .next t := by
  cases e with
  | main => exact exists_mainStep s
  | tick | isr | rx b => exact ⟨_, rfl⟩

/-- An event that is not enabled is stuck, under its own name. -/
theorem stepEvent_of_not_enabled {e : Event} {s : State} (h : enabled e s = false) :
    stepEvent e s = .fault (.notEnabled e) := by
  simp [stepEvent, h]

/-- An event leads on when it is enabled and is stuck when it is not; there is no third. -/
theorem stepEvent_next_or_stuck (e : Event) (s : State) :
    (enabled e s = true ∧ ∃ t, stepEvent e s = .next t) ∨
      (enabled e s = false ∧ stepEvent e s = .fault (.notEnabled e)) := by
  cases hen : enabled e s with
  | true => exact .inl ⟨rfl, stepEvent_enabled hen ▸ exists_performEvent e s⟩
  | false => exact .inr ⟨rfl, stepEvent_of_not_enabled hen⟩

theorem nextEvent_of_schedule {s : State} {e : Event} {es : List Event} (h : s.oracle.schedule = e :: es) :
    nextEvent s = e := by
  simp [nextEvent, h]

/-- A free choice is always of an enabled event (43_dispatch_loop.md R185). -/
theorem enabled_nextEvent_of_no_schedule {s : State} (h : s.oracle.schedule = []) :
    enabled (nextEvent s) s = true := by
  simp only [nextEvent, h]
  split
  · next hturn => exact hturn
  · rfl

/-- The machine's next event is not enabled only where the schedule names it. -/
theorem nextEvent_not_enabled_iff (s : State) :
    enabled (nextEvent s) s = false ↔ ∃ e es, s.oracle.schedule = e :: es ∧ enabled e s = false := by
  cases hs : s.oracle.schedule with
  | nil => simp [enabled_nextEvent_of_no_schedule hs]
  | cons e es => simp [nextEvent_of_schedule hs]

/-- The step of the machine leads on, or is stuck on its next event. -/
theorem step_next_or_stuck (s : State) :
    (enabled (nextEvent s) s = true ∧ ∃ t, step s = .next t) ∨
      (enabled (nextEvent s) s = false ∧ step s = .fault (.notEnabled (nextEvent s))) := by
  rw [step_eq, ← enabled_advanceTurn]
  exact stepEvent_next_or_stuck _ _

/-- Settles O32: the step is stuck on its next event or leads on, and only a schedule names an event not enabled. -/
theorem stepStopsOnlyOnEventsNotEnabled : Obligations.StepStopsOnlyOnEventsNotEnabled := by
  intro s
  rcases step_next_or_stuck s with ⟨hen, t, hstep⟩ | ⟨hen, hstep⟩
  · refine ⟨by simp [hstep], fun f => ?_, fun _ => ⟨t, hstep⟩⟩
    constructor
    · simp [hstep]
    · rintro ⟨e, es, hs, he, -⟩
      exact absurd ((nextEvent_not_enabled_iff s).2 ⟨e, es, hs, he⟩) (by simp [hen])
  · obtain ⟨e, es, hs, he⟩ := (nextEvent_not_enabled_iff s).1 hen
    rw [nextEvent_of_schedule hs] at hstep
    refine ⟨by simp [hstep], fun f => ?_, by simp [hs]⟩
    constructor
    · intro hf
      cases hstep.symm.trans hf
      exact ⟨e, es, hs, he, rfl⟩
    · rintro ⟨e', es', hs', -, rfl⟩
      cases hs.symm.trans hs'
      exact hstep

/-! ### A schedule placed ahead (R81) -/

/-- `s` with another schedule ahead and another count of turns: what no event reads or writes. -/
def withAgenda (schedule : List Event) (turns : Nat) (s : State) : State :=
  { s with oracle := { s.oracle with schedule := schedule, turns := turns } }

section

variable (es : List Event) (n : Nat)

theorem withAgenda_self (s : State) : withAgenda s.oracle.schedule s.oracle.turns s = s := rfl

@[simp] theorem enabled_withAgenda (e : Event) (s : State) : enabled e (withAgenda es n s) = enabled e s :=
  enabled_withOracle e s _

/-- A command neither reads nor writes the agenda. -/
theorem commandEffect_withAgenda (i : Instr) (s : State) :
    commandEffect i (withAgenda es n s) = withAgenda es n (commandEffect i s) := by
  cases i with
  | startStreaming => simp [withAgenda, commandEffect, startStreaming_eq]
  | connect | stopStreaming | selectWave1 | selectWave2 | selectRangeSmall | selectRangeLarge | unknown c => rfl

/-- MAIN's micro-step neither reads nor writes the agenda. -/
theorem mainStep_withAgenda {s t : State} (h : mainStep s = .next t) :
    mainStep (withAgenda es n s) = .next (withAgenda es n t) := by
  rcases mainStep_cases h with ⟨hp, hr, rfl⟩ | ⟨c, rest, hp, hr, rfl⟩ | ⟨hp, hw, rfl⟩ | ⟨hp, hw, rfl⟩ | ⟨hp, rfl⟩ |
    ⟨hp, rfl⟩
  · exact mainStep_rxCheck_nil hp hr
  · have heffect : commandEffect (decode c) { withAgenda es n s with rx := rest } =
        withAgenda es n (commandEffect (decode c) { s with rx := rest }) :=
      commandEffect_withAgenda es n (decode c) { s with rx := rest }
    rw [mainStep_rxCheck_cons (s := withAgenda es n s) hp hr, heffect]
    rfl
  · exact mainStep_test_wanted hp hw
  · exact mainStep_test_unwanted hp hw
  · exact mainStep_emit hp
  · exact mainStep_clear hp

/-- No event reads or writes the agenda. -/
theorem stepEvent_withAgenda (e : Event) (s : State) :
    stepEvent e (withAgenda es n s) = andThen (stepEvent e s) fun t => .next (withAgenda es n t) := by
  rcases stepEvent_next_or_stuck e s with ⟨hen, t, hstep⟩ | ⟨hen, hstuck⟩
  · rw [hstep, andThen_next]
    rcases stepEvent_cases hstep with ⟨rfl, hmain⟩ | ⟨rfl, ha, rfl⟩ | ⟨rfl, -, -, rfl⟩ | ⟨b, rfl, rfl⟩
    · exact mainStep_withAgenda es n hmain
    all_goals exact stepEvent_enabled ((enabled_withAgenda es n _ s).trans hen)
  · rw [hstuck, andThen_fault]
    exact stepEvent_of_not_enabled ((enabled_withAgenda es n e s).trans hen)

/-- An event keeps the schedule there is. -/
theorem schedule_of_stepEvent {e : Event} {s t : State} (h : stepEvent e s = .next t) :
    t.oracle.schedule = s.oracle.schedule := by
  have hself := stepEvent_withAgenda s.oracle.schedule s.oracle.turns e s
  rw [withAgenda_self, h, andThen_next] at hself
  have ht : t = withAgenda s.oracle.schedule s.oracle.turns t := Host.Outcome.next.inj hself
  rw [ht]
  rfl

end

/-- The step of the machine performs the head of the schedule, uses it up and counts the turn. -/
theorem step_withAgenda_cons (e : Event) (es : List Event) (n : Nat) (s : State) :
    step (withAgenda (e :: es) n s) = andThen (stepEvent e s) fun t => .next (withAgenda es (n + 1) t) :=
  stepEvent_withAgenda es (n + 1) e s

/-- `k` steps of the machine behind the host's interface, with the model's own types. -/
def runSteps (k : Nat) (s : State) : Result := Host.Core.run core k s

@[simp] theorem runSteps_zero (s : State) : runSteps 0 s = .next s := rfl

/-- `k + 1` steps of the machine are one step and `k` more. -/
theorem runSteps_succ (k : Nat) (s : State) : runSteps (k + 1) s = andThen (step s) (runSteps k) := by
  have hcore : core.step s = step s := rfl
  cases h : step s <;> simp only [runSteps, Host.Core.run, hcore.trans h] <;> rfl

/-- As many steps as there are events ahead come to what performing the events comes to. -/
theorem runSteps_withAgenda (es fs : List Event) (n : Nat) (s : State) :
    runSteps es.length (withAgenda (es ++ fs) n s) =
      andThen (runEvents es s) fun t => .next (withAgenda fs (n + es.length) t) := by
  induction es generalizing n s with
  | nil => rfl
  | cons e es ih =>
    have hrest (t : State) : runSteps es.length (withAgenda (es ++ fs) (n + 1) t) =
        andThen (runEvents es t) fun u => .next (withAgenda fs (n + (es.length + 1)) u) := by
      rw [ih, Nat.add_assoc, Nat.add_comm 1]
    simp only [List.length_cons, List.cons_append, runSteps_succ, step_withAgenda_cons, runEvents_cons, andThen_assoc,
      andThen_next, hrest]

/-- A run of events keeps the schedule there is. -/
theorem schedule_of_runEvents {es : List Event} {s t : State} (h : runEvents es s = .next t) :
    t.oracle.schedule = s.oracle.schedule :=
  runEvents_induction (P := fun _ s t => t.oracle.schedule = s.oracle.schedule) (fun _ => rfl)
    (fun hstep ih => ih.trans (schedule_of_stepEvent hstep)) h

/-- Settles O34: the run over the placed schedule, whose rest is the schedule there was. -/
theorem scheduledEventsArePerformedInOrder : Obligations.ScheduledEventsArePerformedInOrder := by
  intro es s
  have hrun := runSteps_withAgenda es s.oracle.schedule s.oracle.turns s
  refine ⟨fun t ht => hrun.trans ?_, fun f hf => hrun.trans ?_⟩
  · rw [ht, andThen_next, ← schedule_of_runEvents ht]
    rfl
  · rw [hf]
    rfl

/-! ### Script lines (R81, R82) -/

/-- The tick of an armed timer raises the request. -/
theorem stepEvent_tick {s : State} (h : s.timerArmed = true) : stepEvent .tick s = .next (timerRaise s) :=
  stepEvent_enabled h

/-- The handler of a bound, pending request marks a sample due and acknowledges. -/
theorem stepEvent_isr {s : State} (hp : s.timerPending = true) (hb : s.irqBound = true) :
    stepEvent .isr s = .next { s with sampleDue := true, timerPending := false } :=
  stepEvent_enabled (Bool.and_eq_true_iff.2 ⟨hp, hb⟩)

/-- HOST may always append. -/
theorem stepEvent_rx_eq (b : Byte) (s : State) : stepEvent (.rx b) s = .next (rxAppend b s) := rfl

/-- An armed timer's `fire` is the handler's step on the request raised. -/
theorem runLine_fire_armed {s : State} (h : s.timerArmed = true) :
    runLine .fire s = stepEvent .isr (timerRaise s) := by
  simp only [runLine, runEvents_cons, stepEvent_tick h, andThen_next]
  cases stepEvent .isr (timerRaise s) <;> rfl

/-- After RX_CHECK's step MAIN is at the sample check. -/
theorem phase_of_mainStep_rxCheck {s t : State} (hp : s.phase = .rxCheck) (h : mainStep s = .next t) :
    t.phase = .sampleCheck := by
  cases hr : s.rx with
  | nil =>
    cases (mainStep_rxCheck_nil hp hr).symm.trans h
    rfl
  | cons c rest =>
    cases (mainStep_rxCheck_cons hp hr).symm.trans h
    rfl

/-- At RX_CHECK the iteration is over. -/
theorem mainUntilRxCheck_done (n : Nat) {s : State} (h : s.phase = .rxCheck) : mainUntilRxCheck n s = .next s := by
  cases n with
  | zero => rfl
  | succ n => rw [mainUntilRxCheck, if_pos h]

/-- Elsewhere the iteration goes on with one micro-step. -/
theorem mainUntilRxCheck_more (n : Nat) {s t : State} (h : s.phase ≠ .rxCheck) (hst : mainStep s = .next t) :
    mainUntilRxCheck (n + 1) s = mainUntilRxCheck n t := by
  rw [mainUntilRxCheck, if_neg h, hst, andThen_next]

/-- `iter` from RX_CHECK is as many micro-steps as R180 counts: four with a sample wanted, two without. -/
theorem iteration_of_rxCheck {s t : State} (hp : s.phase = .rxCheck) (hst : mainStep s = .next t) :
    iteration s =
      if sampleWanted t = true then runEvents [.main, .main, .main, .main] s else runEvents [.main, .main] s := by
  have htest : t.phase = .sampleCheck := phase_of_mainStep_rxCheck hp hst
  simp only [iteration, runEvents_cons, stepEvent_main, hst, andThen_next]
  cases hw : sampleWanted t with
  | true =>
    have hemit := mainStep_test_wanted htest hw
    obtain ⟨v, hsend, hv⟩ : ∃ v, mainStep (setPhase .emit t) = .next v ∧ v.phase = .clear :=
      ⟨_, mainStep_emit rfl, rfl⟩
    obtain ⟨w, hclear, hdone⟩ : ∃ w, mainStep v = .next w ∧ w.phase = .rxCheck := ⟨_, mainStep_clear hv, rfl⟩
    rw [if_pos rfl, mainUntilRxCheck_more 2 (by simp [htest]) hemit, mainUntilRxCheck_more 1 (by simp) hsend,
      mainUntilRxCheck_more 0 (by simp [hv]) hclear, mainUntilRxCheck_done 0 hdone]
    simp only [runEvents_cons, stepEvent_main, hemit, hsend, hclear, andThen_next, runEvents_nil]
  | false =>
    have hback := mainStep_test_unwanted htest hw
    rw [if_neg nofun, mainUntilRxCheck_more 2 (by simp [htest]) hback, mainUntilRxCheck_done 2 (by simp)]
    simp only [hback, andThen_next, runEvents_nil]

/-- A draw the sampler can return waits after those already there. -/
theorem addDraw_of_lt {v : Nat} (h : v < 2 ^ Config.rawWidth) (s : State) :
    addDraw v s = .next (s.withOracle { s.oracle with draws := s.oracle.draws ++ [v] }) :=
  if_pos ((drawFits_iff v).2 h)

/-- A draw too wide for the sampler stops the script. -/
theorem addDraw_of_ge {v : Nat} (h : 2 ^ Config.rawWidth ≤ v) (s : State) : addDraw v s = .fault (.drawTooWide v) :=
  if_neg fun hfits => Nat.not_lt.2 h ((drawFits_iff v).1 hfits)

/-- Settles O58, line by line. -/
theorem scriptLinesExpandAsDefined : Obligations.ScriptLinesExpandAsDefined := by
  refine ⟨fun s ha hb => ?_, fun s ha hb => ?_, fun s ha => ?_, fun s t hp hst => iteration_of_rxCheck hp hst,
    fun b s => ?_, fun v s hd hv => ⟨_, addDraw_of_lt hv s, rfl, ?_⟩, fun v s hv => addDraw_of_ge hv s⟩
  · rw [runLine_fire_armed ha]
    exact stepEvent_isr (s := timerRaise s) rfl hb
  · rw [runLine_fire_armed ha]
    exact stepEvent_of_not_enabled (e := .isr) (s := timerRaise s) hb
  · rw [runLine, runEvents_cons, stepEvent_of_not_enabled (e := .tick) ha, andThen_fault]
  · rw [runLine, stepEvent_rx_eq, andThen_next, rxAppend]
  · simp [samplerValue, hd]

end Sys2Proof.Machine
end

section
/-! PROOFS. The Streaming Controller (40_streaming_controller.md): `reset()`, the three micro-steps of
`produceSampleIfDue()`, and which steps clear `sampleDue` or read the sampler. -/

namespace Sys2Proof.Machine

/-! ### `reset()` (R102) -/

/-- Settles O19: the codes of the defaults are read as themselves, and the two accepted setters write after the stop. -/
theorem controllerResetRestoresDefaults : Obligations.ControllerResetRestoresDefaults := by
  intro s
  constructor
  · rw [setRangeByCode, selectWaveByCode, rangeSelector_large, waveSelector_one, resetController]
  · simp [resetController_eq, stopStreaming_eq, acceptRange_eq, acceptWave_eq]

/-! ### TEST, EMIT and CLEAR (R105 to R107) -/

/-- A sample is wanted exactly while streaming with one due. -/
theorem sampleWanted_iff (s : State) : sampleWanted s = true ↔ s.isStreaming = true ∧ s.sampleDue = true :=
  Bool.and_eq_true_iff

/-- None is wanted while idle or with none due. -/
theorem sampleWanted_eq_false_iff (s : State) :
    sampleWanted s = false ↔ s.isStreaming = false ∨ s.sampleDue = false :=
  Bool.and_eq_false_iff

/-- Settles O23: the two outcomes of TEST. -/
theorem testSelectsEmitWhenDue : Obligations.TestSelectsEmitWhenDue := fun s hp =>
  ⟨fun hw => mainStep_test_wanted hp ((sampleWanted_iff s).2 hw),
    fun hw => mainStep_test_unwanted hp ((sampleWanted_eq_false_iff s).2 hw)⟩

/-- Settles O24: EMIT sends the sampler's value, which is in range; an environment that has drawn `raw` gives `raw`. -/
theorem emitSendsOneDrawnSample : Obligations.EmitSendsOneDrawnSample := by
  refine ⟨fun s hp hdraws => ?_, fun s raw hp hraw => ?_⟩
  · exact ⟨samplerValue s, (samplerAdvance s).oracle, samplerValue_lt hdraws, rfl, mainStep_emit hp⟩
  · have hrange : Oracle.DrawsInRange { s.oracle with draws := [raw] } := List.forall_mem_singleton.2 hraw
    exact ⟨_, _, hrange, mainStep_emit (s := s.withOracle _) hp, rfl, rfl⟩

/-! ### The commands that discard a due sample (R101, R108) -/

/-- StopStreaming and Connect leave no sample due. -/
theorem sampleDue_of_stop {i : Instr} (h : i = .stopStreaming ∨ i = .connect) (s : State) :
    (commandEffect i s).sampleDue = false := by
  rcases h with rfl | rfl <;> rfl

/-- No other command touches `sampleDue`. -/
theorem sampleDue_of_not_stop {i : Instr} (hstop : i ≠ .stopStreaming) (hconnect : i ≠ .connect) (s : State) :
    (commandEffect i s).sampleDue = s.sampleDue := by
  cases i with
  | stopStreaming => exact absurd rfl hstop
  | connect => exact absurd rfl hconnect
  | startStreaming => exact startStreaming_sampleDue s
  | selectWave1 | selectWave2 | selectRangeSmall | selectRangeLarge | unknown c => rfl

/-- From a due sample, the commands that discard it are these two. -/
theorem commandEffect_clears_sampleDue_iff {i : Instr} {s : State} (hdue : s.sampleDue = true) :
    (commandEffect i s).sampleDue = false ↔ i = .stopStreaming ∨ i = .connect := by
  refine ⟨fun h => ?_, fun h => sampleDue_of_stop h s⟩
  by_contra hneither
  obtain ⟨hstop, hconnect⟩ := not_or.1 hneither
  rw [sampleDue_of_not_stop hstop hconnect, hdue] at h
  cases h

/-- A sample wanted stays wanted through every command but these two. -/
theorem sampleWanted_of_not_stop {i : Instr} {s : State} (hstop : i ≠ .stopStreaming) (hconnect : i ≠ .connect)
    (hw : sampleWanted s = true) : sampleWanted (commandEffect i s) = true := by
  obtain ⟨hstream, hdue⟩ := (sampleWanted_iff s).1 hw
  refine (sampleWanted_iff _).2 ⟨?_, (sampleDue_of_not_stop hstop hconnect s).trans hdue⟩
  by_contra hidle
  rcases isStreaming_changed_by_command (i := i) (s := s) (by rwa [hstream]) with ⟨htrue, -⟩ | ⟨-, hi | hi⟩
  · exact hidle htrue
  · exact hstop hi
  · exact hconnect hi

/-- A sample wanted at RX_CHECK is still wanted at the TEST that follows, unless a stop or Connect is handled. -/
theorem sampleWanted_after_rxCheck {s t : State} (hp : s.phase = .rxCheck) (hst : mainStep s = .next t)
    (hhead : ∀ c rest, s.rx = c :: rest → decode c ≠ .stopStreaming ∧ decode c ≠ .connect)
    (hw : sampleWanted s = true) : sampleWanted t = true := by
  cases hr : s.rx with
  | nil =>
    cases (mainStep_rxCheck_nil hp hr).symm.trans hst
    exact hw
  | cons c rest =>
    obtain ⟨hstop, hconnect⟩ := hhead c rest hr
    cases (mainStep_rxCheck_cons hp hr).symm.trans hst
    exact sampleWanted_of_not_stop hstop hconnect (s := { s with rx := rest }) hw

/-- A firing right after CLEAR makes a sample wanted while streaming, with MAIN at RX_CHECK and the queue as it was. -/
theorem firing_after_clear {s : State} (hp : s.phase = .clear) (hstream : s.isStreaming = true)
    (hbound : s.irqBound = true) (hpending : s.timerPending = true) :
    ∃ t, runEvents [.main, .isr] s = .next t ∧ t.phase = .rxCheck ∧ t.rx = s.rx ∧ sampleWanted t = true := by
  have hclear : mainStep s = .next (clearSample s) := mainStep_clear hp
  have hfire : stepEvent .isr (clearSample s) = .next (onTimerInterrupt (clearSample s)) :=
    stepEvent_isr hpending hbound
  refine ⟨onTimerInterrupt (clearSample s), ?_, rfl, rfl, (sampleWanted_iff _).2 ⟨hstream, rfl⟩⟩
  simp only [runEvents_cons, runEvents_nil, stepEvent_main, hclear, hfire, andThen_next]

/-- Settles O25: CLEAR's one store; then the sample of the firing is still wanted at the TEST. -/
theorem clearConsumesTheSample : Obligations.ClearConsumesTheSample := by
  refine ⟨fun s hp => mainStep_clear hp, fun s hp hstream hbound hpending hhead => ?_⟩
  obtain ⟨v, hfire, hv, hrx, hw⟩ := firing_after_clear hp hstream hbound hpending
  obtain ⟨u, hcheck⟩ := exists_mainStep v
  have htest : mainStep u = .next (setPhase .emit u) :=
    mainStep_test_wanted (phase_of_mainStep_rxCheck hv hcheck)
      (sampleWanted_after_rxCheck hv hcheck (hrx.symm ▸ hhead) hw)
  have hrest : runEvents [.main, .main] v = .next (setPhase .emit u) := by
    simp only [runEvents_cons, runEvents_nil, stepEvent_main, hcheck, htest, andThen_next]
  exact ⟨_, (runEvents_append [.main, .isr] [.main, .main] s).trans (by rw [hfire, andThen_next, hrest]), rfl⟩

/-! ### Who clears `sampleDue` and who reads the sampler (R108) -/

/-- The MAIN micro-steps that take `sampleDue` from true to false. -/
theorem mainStep_clears_sampleDue_iff {s t : State} (h : mainStep s = .next t) (hdue : s.sampleDue = true) :
    t.sampleDue = false ↔ s.phase = .clear ∨ (s.phase = .rxCheck ∧
      ∃ c rest, s.rx = c :: rest ∧ (decode c = .stopStreaming ∨ decode c = .connect)) := by
  rcases mainStep_cases h with ⟨hp, hr, rfl⟩ | ⟨c, rest, hp, hr, rfl⟩ | ⟨hp, -, rfl⟩ | ⟨hp, -, rfl⟩ | ⟨hp, rfl⟩ |
    ⟨hp, rfl⟩
  · simp [hp, hr, hdue]
  · simpa [hp, hr] using commandEffect_clears_sampleDue_iff (i := decode c) (s := { s with rx := rest }) hdue
  · simp [hp, hdue]
  · simp [hp, hdue]
  · simp [hp, hdue, samplerAdvance]
  · simp [hp]

/-- Of all steps, only MAIN's take `sampleDue` from true to false. -/
theorem sampleDue_cleared_only_by_main {e : Event} {s t : State} (h : stepEvent e s = .next t)
    (hdue : s.sampleDue = true) (ht : t.sampleDue = false) : e = .main := by
  rcases stepEvent_cases h with ⟨he, -⟩ | ⟨-, -, rfl⟩ | ⟨-, -, -, rfl⟩ | ⟨b, -, rfl⟩
  · exact he
  · exact absurd ht (by simp [hdue])
  · cases ht
  · exact absurd ht (by simp [hdue])

/-- The counter of reads counts the samples sent, one for each EMIT. -/
theorem stepEvent_reads {e : Event} {s t : State} (h : stepEvent e s = .next t) :
    t.oracle.reads = s.oracle.reads + (sampleMark e s).length := by
  rcases stepEvent_cases h with ⟨rfl, hmain⟩ | ⟨rfl, -, rfl⟩ | ⟨rfl, -, -, rfl⟩ | ⟨b, rfl, rfl⟩
  · rcases mainStep_cases hmain with ⟨hp, -, rfl⟩ | ⟨c, rest, hp, -, rfl⟩ | ⟨hp, -, rfl⟩ | ⟨hp, -, rfl⟩ | ⟨hp, rfl⟩ |
      ⟨hp, rfl⟩
    · simp [sampleMark, hp]
    · simp [sampleMark, hp]
    · simp [sampleMark, hp]
    · simp [sampleMark, hp]
    · simp [sampleMark, hp, samplerAdvance]
    · simp [sampleMark, hp]
  · rfl
  · rfl
  · rfl

/-- Settles O45: only MAIN clears the flag, by CLEAR or by a command; of these commands only Connect replies; and the
counter of reads goes up with each EMIT. -/
theorem sampleDueIsClearedOnlyByClearAndStop : Obligations.SampleDueIsClearedOnlyByClearAndStop := by
  refine ⟨fun s t e h hdue => ?_, fun s t h hp hdue ht => ?_, fun s t e h => ?_⟩
  · constructor
    · intro ht
      obtain rfl := sampleDue_cleared_only_by_main h hdue ht
      exact ⟨rfl, (mainStep_clears_sampleDue_iff h hdue).1 ht⟩
    · rintro ⟨rfl, hwhere⟩
      exact (mainStep_clears_sampleDue_iff h hdue).2 hwhere
  · rcases (mainStep_clears_sampleDue_iff h hdue).1 ht with hclear | ⟨-, c, rest, hr, hstop⟩
    · cases hp.symm.trans hclear
    · have htx : t.tx = s.tx ++ replyTo (decode c) := by
        simpa [sentBy_eq_replies, handledBy_main_rxCheck, hp, hr] using stepEvent_tx h
      rcases hstop with hi | hi
      · exact .inl (by simp [htx, hi, replyTo])
      · exact .inr (by simp [htx, hi, replyTo, encodeConnection])
  · rw [stepEvent_reads h, sampleMark]
    split
    · next hemit => simp [hemit]
    · next hother => simp [hother]

/-! ### `produceSampleIfDue()` among the steps of the other agents (R109, R110) -/

/-- The steps of the timer, the handler and HOST leave alone all but the two interrupt flags and the queue. -/
theorem stepEvent_of_ne_main {e : Event} {s t : State} (he : e ≠ .main) (h : stepEvent e s = .next t) :
    ∃ due pending queue, t = { s with sampleDue := due, timerPending := pending, rx := queue } := by
  rcases stepEvent_cases h with ⟨hmain, -⟩ | ⟨-, -, rfl⟩ | ⟨-, -, -, rfl⟩ | ⟨b, -, rfl⟩
  · exact absurd hmain he
  · exact ⟨s.sampleDue, true, s.rx, rfl⟩
  · exact ⟨true, false, s.rx, rfl⟩
  · exact ⟨s.sampleDue, s.timerPending, s.rx ++ [b], rfl⟩

/-- So do any number of them. -/
theorem runEvents_of_ne_main {es : List Event} {s t : State} (hes : ∀ e ∈ es, e ≠ .main)
    (h : runEvents es s = .next t) :
    ∃ due pending queue, t = { s with sampleDue := due, timerPending := pending, rx := queue } := by
  refine runEvents_induction (P := fun es s t => (∀ e ∈ es, e ≠ .main) →
    ∃ due pending queue, t = { s with sampleDue := due, timerPending := pending, rx := queue })
    (fun s _ => ⟨s.sampleDue, s.timerPending, s.rx, rfl⟩) ?_ h hes
  intro e es s u t hstep ih hes
  obtain ⟨he, hrest⟩ := List.forall_mem_cons.1 hes
  obtain ⟨_, _, _, rfl⟩ := stepEvent_of_ne_main he hstep
  obtain ⟨due, pending, queue, rfl⟩ := ih hrest
  exact ⟨due, pending, queue, rfl⟩

/-- A MAIN micro-step and steps of the other agents after it: MAIN's result, but for the two interrupt flags and the
queue. -/
theorem runEvents_main_then_others {es : List Event} {s u t : State} (hes : ∀ e ∈ es, e ≠ .main)
    (hmain : mainStep s = .next u) (h : runEvents (.main :: es) s = .next t) :
    ∃ due pending queue, t = { u with sampleDue := due, timerPending := pending, rx := queue } := by
  rw [runEvents_cons, stepEvent_main, hmain, andThen_next] at h
  exact runEvents_of_ne_main hes h

/-- Settles O49: TEST, EMIT and CLEAR one after the other. What the other agents do between them touches neither MAIN's
phase, the outbound log nor the sampler, and CLEAR takes every firing before it. -/
theorem produceSampleSendsOnePacketAndAbsorbsFirings :
    Obligations.ProduceSampleSendsOnePacketAndAbsorbsFirings := by
  refine fun s t before after hp hbefore hafter => ⟨fun hw h => ?_, fun hw h => ?_⟩
  · rw [runEvents_append, runEvents_append] at h
    obtain ⟨v, hupToClear, hclear⟩ := andThen_eq_next h
    obtain ⟨u, htest, hemit⟩ := andThen_eq_next hupToClear
    obtain ⟨_, _, _, rfl⟩ := runEvents_main_then_others hbefore (mainStep_test_wanted hp hw) htest
    obtain ⟨_, _, _, rfl⟩ := runEvents_main_then_others hafter (mainStep_emit rfl) hemit
    rw [runEvents_cons, stepEvent_main, mainStep_clear rfl] at hclear
    cases hclear
    exact ⟨rfl, rfl, rfl, rfl⟩
  · obtain ⟨_, _, _, rfl⟩ := runEvents_main_then_others hbefore (mainStep_test_unwanted hp hw) h
    exact ⟨rfl, rfl, rfl⟩

end Sys2Proof.Machine
end

section
/-! PROOFS. The Command Processor (41_command_processor.md): the byte of each command, the two setters given a code, the
command of an iteration followed by its TEST, and what each command changes and leaves alone. -/

namespace Sys2Proof

/-! ### The byte of a command (30_encoding.md R72) -/

/-- The default table gives every command one byte, so the byte can be read back from the command. -/
theorem encodeByte_decode (c : Byte) : encodeByte (decode c) = c :=
  Option.some_inj.1
    ((encodeWith_defaultTable _).symm.trans (encodeWith_decodeWith defaultTable_wellFormed defaultTable_namesOnce c))

/-- A well-formed command is decoded from its own byte and from no other. -/
theorem decode_eq_iff {i : Instr} (h : i.wellFormed = true) (c : Byte) : decode c = i ↔ c = encodeByte i := by
  constructor
  · rintro rfl
    exact (encodeByte_decode c).symm
  · rintro rfl
    exact decode_encodeByte h

/-- A byte the default table does not recognise decodes to `Unknown` of itself (R73). -/
theorem decode_of_not_recognised {c : Byte} (h : recognised c = false) : decode c = .unknown c :=
  decodeWith_of_lookup_none (Option.isNone_iff_eq_none.1 (Option.isSome_eq_false_iff.1 h))

end Sys2Proof

namespace Sys2Proof.Machine

/-! ### The setters given a code (R139, R140) -/

section

variable (s : State)

@[simp] theorem setRangeByCode_small : setRangeByCode Config.rangeCodeSmall s = acceptRange .small s := by
  rw [setRangeByCode, rangeSelector_small, setRange_codeSmall]

@[simp] theorem setRangeByCode_large : setRangeByCode Config.rangeCodeLarge s = acceptRange .large s := by
  rw [setRangeByCode, rangeSelector_large, setRange_codeLarge]

@[simp] theorem selectWaveByCode_one : selectWaveByCode Config.waveCode1 s = acceptWave .wave1 s := by
  rw [selectWaveByCode, waveSelector_one, selectWave_code1]

@[simp] theorem selectWaveByCode_two : selectWaveByCode Config.waveCode2 s = acceptWave .wave2 s := by
  rw [selectWaveByCode, waveSelector_two, selectWave_code2]

end

/-- The range setter drops a value that is neither of its codes. -/
theorem setRangeByCode_of_ne {code : Nat} (hsmall : code ≠ Config.rangeCodeSmall) (hlarge : code ≠ Config.rangeCodeLarge)
    (s : State) : setRangeByCode code s = s := by
  rw [setRangeByCode, rangeSelector, if_neg hsmall, if_neg hlarge, setRange_outside]

/-- The waveform setter drops a value that is neither of its codes. -/
theorem selectWaveByCode_of_ne {code : Nat} (hone : code ≠ Config.waveCode1) (htwo : code ≠ Config.waveCode2)
    (s : State) : selectWaveByCode code s = s := by
  rw [selectWaveByCode, waveSelector, if_neg hone, if_neg htwo, selectWave_outside]

/-- Settles O16: each code is accepted with its range, and any other value is dropped. -/
theorem rangeSetterWritesValidCodesOnly : Obligations.RangeSetterWritesValidCodesOnly := by
  intro code s
  split
  · next hsmall => rw [hsmall, setRangeByCode_small, acceptRange_eq]
  · next hsmall =>
    split
    · next hlarge => rw [hlarge, setRangeByCode_large, acceptRange_eq]
    · next hlarge => exact setRangeByCode_of_ne hsmall hlarge s

/-- Settles O17: each code is accepted with its waveform, and any other value is dropped. -/
theorem waveSetterWritesValidCodesOnly : Obligations.WaveSetterWritesValidCodesOnly := by
  intro code s
  split
  · next hone => rw [hone, selectWaveByCode_one, acceptWave_eq]
  · next hone =>
    split
    · next htwo => rw [htwo, selectWaveByCode_two, acceptWave_eq]
    · next htwo => exact selectWaveByCode_of_ne hone htwo s

/-- Settles O18: a value outside the codes is dropped, while a byte outside the table is answered as `Unknown`. -/
theorem invalidSelectorsAreDroppedSilently : Obligations.InvalidSelectorsAreDroppedSilently := by
  refine ⟨fun _ s hsmall hlarge => setRangeByCode_of_ne hsmall hlarge s,
    fun _ s hone htwo => selectWaveByCode_of_ne hone htwo s, fun c s hc => ?_⟩
  rw [handle_eq_commandEffect, decode_of_not_recognised hc, commandEffect, txAppend]

/-! ### The four select commands (R134 to R137) -/

/-- Settles O8: the command is the accepted call with code 1. -/
theorem selectWave1WritesFieldAndAfe : Obligations.SelectWave1WritesFieldAndAfe := by
  refine ⟨decode_eq_iff (i := .selectWave1) rfl, fun s => ?_⟩
  rw [selectWaveByCode_one, exec_eq_commandEffect, commandEffect]
  exact ⟨rfl, by rw [acceptWave_eq]⟩

/-- Settles O9: the command is the accepted call with code 2. -/
theorem selectWave2WritesFieldAndAfe : Obligations.SelectWave2WritesFieldAndAfe := by
  refine ⟨decode_eq_iff (i := .selectWave2) rfl, fun s => ?_⟩
  rw [selectWaveByCode_two, exec_eq_commandEffect, commandEffect]
  exact ⟨rfl, by rw [acceptWave_eq]⟩

/-- Settles O10: the command is the accepted call with the code of Small. -/
theorem selectRangeSmallWritesFieldAndAfe : Obligations.SelectRangeSmallWritesFieldAndAfe := by
  refine ⟨decode_eq_iff (i := .selectRangeSmall) rfl, fun s => ?_⟩
  rw [setRangeByCode_small, exec_eq_commandEffect, commandEffect]
  exact ⟨rfl, by rw [acceptRange_eq]⟩

/-- Settles O11: the command is the accepted call with the code of Large; after Small's it overwrites the range, and both
writes stay logged. -/
theorem selectRangeLargeWritesFieldAndAfe : Obligations.SelectRangeLargeWritesFieldAndAfe := by
  refine ⟨decode_eq_iff (i := .selectRangeLarge) rfl, fun s => ?_, fun s => ?_⟩
  · rw [setRangeByCode_large, exec_eq_commandEffect, commandEffect]
    exact ⟨rfl, by rw [acceptRange_eq]⟩
  · rw [exec_eq_commandEffect, andThen_next, exec_eq_commandEffect]
    simp only [commandEffect, acceptRange_eq, List.append_assoc, List.singleton_append]

/-! ### A command and the TEST of the same iteration (43_dispatch_loop.md R180, R181) -/

/-- TEST moves MAIN's phase and nothing else (R105). -/
theorem mainStep_test {s : State} (hp : s.phase = .sampleCheck) :
    mainStep s = .next (setPhase (if sampleWanted s = true then .emit else .rxCheck) s) := by
  split
  · next hw => exact mainStep_test_wanted hp hw
  · next hw => exact mainStep_test_unwanted hp (Bool.eq_false_iff.2 hw)

/-- After the command of the first byte TEST goes to EMIT or back to RX_CHECK, as that command left the sample wanted or
not; it changes nothing else. -/
theorem runEvents_command_then_test {s : State} {c : Byte} {rest : List Byte} (hp : s.phase = .rxCheck)
    (hr : s.rx = c :: rest) :
    runEvents [.main, .main] s = .next
      { commandEffect (decode c) s with
        rx := rest
        phase := if sampleWanted (commandEffect (decode c) s) = true then .emit else .rxCheck } := by
  rw [runEvents_cons, stepEvent_main, mainStep_rxCheck_cons hp hr, andThen_next, runEvents_cons, stepEvent_main,
    mainStep_test rfl, andThen_next, runEvents_nil, commandEffect_withRx]
  rfl

/-! ### Connect and Unknown, which reply (R131, R138, R142) -/

/-- Settles O5: the reply, the stop and the two default writes, one after the other; with nothing due any more, TEST goes
back to RX_CHECK. -/
theorem connectRepliesAndResets : Obligations.ConnectRepliesAndResets := by
  refine ⟨decode_eq_iff (i := .connect) rfl, fun s => ?_, fun s rest hp hr => ?_⟩
  · rw [exec_eq_commandEffect, commandEffect, resetController_eq]
    simp only [stopStreaming_eq, acceptRange_eq, acceptWave_eq, txAppend, encodeConnection, List.append_assoc,
      List.singleton_append]
  · have hdecode : decode 0x76#8 = .connect := decode_encodeByte (i := .connect) rfl
    have hunwanted : sampleWanted (commandEffect .connect s) = false :=
      (sampleWanted_eq_false_iff _).2 (.inr (sampleDue_of_stop (.inr rfl) s))
    exact ⟨_, runEvents_command_then_test hp hr, by simp [hdecode, hunwanted], rfl,
      by simp [hdecode, replyTo, encodeConnection], by rw [hdecode]; rfl⟩

/-- Settles O12: the reply and nothing else, so that a sample wanted before it is wanted at the TEST. -/
theorem unknownSendsOneErrorPacket : Obligations.UnknownSendsOneErrorPacket := by
  refine ⟨decode_eq_unknown_iff, fun c s => exec_eq_commandEffect (.unknown c) s,
    fun s c rest hp hr hc hstream hdue => ?_⟩
  have hwanted : sampleWanted (commandEffect (.unknown c) s) = true :=
    sampleWanted_of_not_stop nofun nofun ((sampleWanted_iff s).2 ⟨hstream, hdue⟩)
  exact ⟨_, runEvents_command_then_test hp hr, by simp [hc, hwanted]⟩

/-- Of the commands only Connect and Unknown have a reply. -/
theorem replyTo_eq_nil {i : Instr} (hconnect : i ≠ .connect) (hunknown : i.isUnknown = false) : replyTo i = [] := by
  cases i with
  | connect => exact absurd rfl hconnect
  | unknown c => cases hunknown
  | startStreaming | stopStreaming | selectWave1 | selectWave2 | selectRangeSmall | selectRangeLarge => rfl

/-- Settles O13: a command appends its reply, which is empty but for two of them. -/
theorem onlyConnectAndUnknownSendBytes : Obligations.OnlyConnectAndUnknownSendBytes := by
  refine fun i s => ⟨_, exec_eq_commandEffect i s, fun hconnect hunknown => ?_⟩
  rw [commandEffect_tx, replyTo_eq_nil hconnect hunknown, List.append_nil]

/-! ### StartStreaming and StopStreaming (R132, R133; 40_streaming_controller.md R100, R101) -/

/-- With no streaming no request is pending. -/
theorem TimerFlagsAgree.not_pending {s : State} (h : TimerFlagsAgree s) (hidle : s.isStreaming = false) :
    s.timerPending = false :=
  Bool.eq_false_iff.2 fun hpending => Bool.false_ne_true <|
    calc false = s.isStreaming := hidle.symm
      _ = s.timerArmed := h.armed.symm
      _ = true := h.pending hpending

/-- With no streaming no sample is due. -/
theorem DueOnlyWhileStreaming.not_due {s : State} (h : DueOnlyWhileStreaming s) (hidle : s.isStreaming = false) :
    s.sampleDue = false :=
  Bool.eq_false_iff.2 fun hdue => Bool.false_ne_true (hidle.symm.trans (h hdue))

/-- `start()` while streaming writes what the fields hold already (R30). -/
theorem startStreaming_of_streaming {s : State} (h : TimerFlagsAgree s) (hstream : s.isStreaming = true) :
    startStreaming s = s := by
  have harmed : s.timerArmed = true := h.armed.trans hstream
  have hbound : s.irqBound = true := h.bound.trans hstream
  rw [startStreaming_eq]
  cases s
  simp_all

/-- `stop()` while idle writes what the fields hold already (R23, R30). -/
theorem stopStreaming_of_idle {s : State} (h : TimerFlagsAgree s) (hdue : DueOnlyWhileStreaming s)
    (hidle : s.isStreaming = false) : stopStreaming s = s := by
  have harmed : s.timerArmed = false := h.armed.trans hidle
  have hbound : s.irqBound = false := h.bound.trans hidle
  have hpending : s.timerPending = false := h.not_pending hidle
  have hnone : s.sampleDue = false := hdue.not_due hidle
  rw [stopStreaming_eq]
  cases s
  simp_all

/-- Settles O6: `start()` writes three flags, and leaves the due flag as the idle block has it. -/
theorem startStreamingArmsBindsAndStreams : Obligations.StartStreamingArmsBindsAndStreams := by
  refine ⟨decode_eq_iff (i := .startStreaming) rfl, fun s => ?_, exec_eq_commandEffect _,
    fun s hdue hidle => ⟨_, exec_eq_commandEffect _ s, ?_⟩, fun s h hstream => ?_⟩
  · rw [exec_eq_commandEffect, commandEffect, startStreaming_eq]
  · rw [commandEffect, startStreaming_sampleDue, hdue.not_due hidle]
  · rw [exec_eq_commandEffect, commandEffect, startStreaming_of_streaming h hstream]

/-- No command but StartStreaming binds the handler. -/
theorem irqBound_of_not_start {i : Instr} (hi : i ≠ .startStreaming) {s : State} (h : s.irqBound = false) :
    (commandEffect i s).irqBound = false := by
  cases i with
  | startStreaming => exact absurd rfl hi
  | connect | stopStreaming => rfl
  | selectWave1 | selectWave2 | selectRangeSmall | selectRangeLarge | unknown c => exact h

/-- A step that handles no StartStreaming leaves an unbound handler unbound. -/
theorem stepEvent_keeps_unbound {e : Event} {s t : State} (hstep : stepEvent e s = .next t) (h : s.irqBound = false)
    (hno : ∀ c ∈ handledBy e s, decode c ≠ .startStreaming) : t.irqBound = false := by
  rcases stepEvent_command_or_frame hstep with ⟨c, rest, rfl, hp, hr, rfl⟩ | hframe
  · have hc : c ∈ handledBy .main s := by simp [handledBy_main_rxCheck hp, hr]
    exact irqBound_of_not_start (hno c hc) h
  · exact (congrArg State.irqBound hframe).trans h

/-- So does any run of such steps. -/
theorem runEvents_keeps_unbound {es : List Event} {s t : State} (hrun : runEvents es s = .next t)
    (h : s.irqBound = false) (hno : ∀ c ∈ gather handledBy es s, decode c ≠ .startStreaming) : t.irqBound = false := by
  refine runEvents_induction (P := fun es s t => s.irqBound = false →
    (∀ c ∈ gather handledBy es s, decode c ≠ .startStreaming) → t.irqBound = false) (fun _ h _ => h) ?_ hrun h hno
  intro e es s u t hstep ih h hno
  rw [gather_cons _ es hstep, List.forall_mem_append] at hno
  obtain ⟨hfirst, hlater⟩ := hno
  exact ih (stepEvent_keeps_unbound hstep h hfirst) hlater

/-- Settles O7: `stop()` clears five flags; the handler it unbinds stays unbound, hence not enabled, for as long as no
StartStreaming is handled. -/
theorem stopStreamingDiscardsDueAndPending : Obligations.StopStreamingDiscardsDueAndPending := by
  refine ⟨decode_eq_iff (i := .stopStreaming) rfl, fun s => ?_, exec_eq_commandEffect _, fun s h hdue hidle => ?_,
    fun s t es hrun hno => ?_, fun s => ?_⟩
  · rw [exec_eq_commandEffect, commandEffect, stopStreaming_eq]
  · rw [exec_eq_commandEffect, commandEffect, stopStreaming_of_idle h hdue hidle]
  · exact Bool.and_eq_false_iff.2 (.inr (runEvents_keeps_unbound hrun rfl hno))
  · rw [exec_eq_commandEffect, andThen_next]
    exact ⟨_, exec_eq_commandEffect _ _, rfl, rfl⟩

/-! ### The two groups of fields (R143) -/

/-- The four select commands change OutputConfig and the AFE alone. -/
theorem commandEffect_select {i : Instr}
    (h : i = .selectWave1 ∨ i = .selectWave2 ∨ i = .selectRangeSmall ∨ i = .selectRangeLarge) (s : State) :
    commandEffect i s = withOutputOf (commandEffect i s) s := by
  rcases h with rfl | rfl | rfl | rfl <;> rfl

/-- StartStreaming and StopStreaming leave OutputConfig and the AFE alone. -/
theorem commandEffect_start_stop {i : Instr} (h : i = .startStreaming ∨ i = .stopStreaming) (s : State) :
    commandEffect i s = withOutputOf s (commandEffect i s) := by
  rcases h with rfl | rfl
  · rw [commandEffect, startStreaming_eq]
    rfl
  · rfl

/-- A state in which every field of both groups differs from what Connect makes of it. -/
def streamingOffDefaults : State :=
  { State.reset with
    isStreaming := true, sampleDue := true, timerArmed := true, irqBound := true, timerPending := true
    range := .small, waveform := .wave2, afeRange := .small, afeWave := .wave2 }

/-- Settles O14: a frame for each group, `Unknown`'s own, and a state where Connect leaves neither group alone. -/
theorem commandsAreIndependent : Obligations.CommandsAreIndependent := by
  refine ⟨fun i s hi => ?_, fun i s hi => ?_, fun c s => ⟨_, exec_eq_commandEffect _ s, rfl⟩,
    streamingOffDefaults, _, exec_eq_commandEffect .connect _, ?_⟩
  · refine ⟨_, exec_eq_commandEffect i s, ?_⟩
    rw [commandEffect_select hi]
    exact ⟨rfl, rfl, rfl, rfl, rfl⟩
  · refine ⟨_, exec_eq_commandEffect i s, ?_⟩
    rw [commandEffect_start_stop hi]
    exact ⟨rfl, rfl, rfl, rfl, rfl⟩
  · decide

end Sys2Proof.Machine
end

section
/-! PROOFS. The Packet Encoder (42_packet_encoder.md): the Sample split into its two bytes and read back from them, the
sample packet, and the error reply. -/

namespace Sys2Proof.Machine

/-! ### The Sample and its two bytes (30_encoding.md R83) -/

@[simp] theorem toNat_sampleOfRaw (raw : Nat) : (sampleOfRaw raw).toNat = raw % 2 ^ 16 := BitVec.toNat_ofNat raw 16

/-- Two raw values come to one Sample exactly when they agree modulo 2^16. -/
theorem sampleOfRaw_eq_iff (a b : Nat) : sampleOfRaw a = sampleOfRaw b ↔ a % 2 ^ 16 = b % 2 ^ 16 := by
  rw [← BitVec.toNat_inj, toNat_sampleOfRaw, toNat_sampleOfRaw]

@[simp] theorem toNat_sampleHigh (v : Sample) : (sampleHigh v).toNat = v.toNat / 2 ^ 8 := by
  have hquot : v.toNat / 2 ^ 8 < 2 ^ 8 := Nat.div_lt_of_lt_mul v.isLt
  rw [sampleHigh, BitVec.extractLsb'_toNat, Nat.shiftRight_eq_div_pow, Nat.mod_eq_of_lt hquot]

@[simp] theorem toNat_sampleLow (v : Sample) : (sampleLow v).toNat = v.toNat % 2 ^ 8 :=
  BitVec.extractLsb'_toNat 0 8 v

/-- The two bytes give the Sample back. -/
theorem sampleHigh_mul_add_sampleLow (v : Sample) :
    (sampleHigh v).toNat * 2 ^ 8 + (sampleLow v).toNat = v.toNat := by
  rw [toNat_sampleHigh, toNat_sampleLow, Nat.div_add_mod']

/-- A Sample is known from its two bytes. -/
theorem sample_eq_of_bytes {v w : Sample} (hhigh : sampleHigh v = sampleHigh w) (hlow : sampleLow v = sampleLow w) :
    v = w := by
  apply BitVec.eq_of_toNat_eq
  rw [← sampleHigh_mul_add_sampleLow v, ← sampleHigh_mul_add_sampleLow w, hhigh, hlow]

/-- The high byte of a raw value's Sample: bits 15 to 8 of the raw value. -/
theorem sampleHigh_sampleOfRaw (raw : Nat) :
    sampleHigh (sampleOfRaw raw) = BitVec.ofNat 8 (raw % 2 ^ 16 / 2 ^ 8) := by
  rw [← toNat_sampleOfRaw, ← toNat_sampleHigh, BitVec.ofNat_toNat, BitVec.setWidth_eq]

/-- The low byte of a raw value's Sample: the bits above the Sample do not reach it. -/
theorem sampleLow_sampleOfRaw (raw : Nat) : sampleLow (sampleOfRaw raw) = BitVec.ofNat 8 (raw % 2 ^ 8) := by
  have hlow : raw % 2 ^ 16 % 2 ^ 8 = raw % 2 ^ 8 := Nat.mod_mod_of_dvd raw (Nat.pow_dvd_pow 2 (by decide))
  rw [← hlow, ← toNat_sampleOfRaw, ← toNat_sampleLow, BitVec.ofNat_toNat, BitVec.setWidth_eq]

/-! ### The sample packet (R160, R161) -/

/-- The packet holds the Sample, all of it and nothing else of the raw value. -/
theorem encodeSample_eq_iff (a b : Nat) : encodeSample a = encodeSample b ↔ sampleOfRaw a = sampleOfRaw b := by
  constructor
  · intro h
    simp only [encodeSample, List.cons.injEq, true_and, and_true] at h
    obtain ⟨hhigh, hlow⟩ := h
    exact sample_eq_of_bytes hhigh hlow
  · intro h
    rw [encodeSample, encodeSample, h]

/-- Settles O27: a packet determines the Sample and the Sample the packet; a raw value below 2^16 is its own Sample. -/
theorem samplePacketKeepsExactlySixteenBits : Obligations.SamplePacketKeepsExactlySixteenBits := by
  refine ⟨fun a b => (encodeSample_eq_iff a b).trans (sampleOfRaw_eq_iff a b), fun raw hraw => ?_⟩
  refine ⟨sampleHigh (sampleOfRaw raw), sampleLow (sampleOfRaw raw), rfl, ?_⟩
  rw [sampleHigh_mul_add_sampleLow, toNat_sampleOfRaw, Nat.mod_eq_of_lt hraw]

/-- Settles O26: the two middle bytes as numbers, between the header and the trailer. -/
theorem samplePacketIsBigEndianFrame : Obligations.SamplePacketIsBigEndianFrame := by
  refine ⟨fun raw => ?_, by decide⟩
  rw [encodeSample, sampleHigh_sampleOfRaw, sampleLow_sampleOfRaw, sampleHeader, sampleTrailer]

/-! ### The error reply (R163) -/

/-- The error reply is three bytes longer than its prefix, whatever the byte. -/
theorem length_encodeError (c : Byte) : (encodeError c).length = Config.errorPrefix.length + 3 := by
  rw [encodeError, List.append_assoc, List.length_append]
  rfl

/-- Settles O28: the rendered byte is the byte itself, and the line terminator is CR and LF. -/
theorem errorReplyCarriesTheRawByte : Obligations.ErrorReplyCarriesTheRawByte :=
  fun c => ⟨rfl, length_encodeError c⟩

end Sys2Proof.Machine
end

section
/-! PROOFS. The Dispatch Loop one step at a time (43_dispatch_loop.md R180 to R185): totality, RX_CHECK, the machine's
step against the step relation, the phases of an iteration, and a firing beside a command. -/

namespace Sys2Proof.Machine

/-! ### Each agent's step (R181, R182, R184; 60_exceptions.md R200) -/

/-- Settles O22: HOST's step is always enabled and is the append. -/
theorem hostAppendsAtTheTail : Obligations.HostAppendsAtTheTail := stepEvent_rx_eq

/-- Settles O31: every agent's step is total, and an event that is not enabled is a fault, never a refusal. -/
theorem enabledEventsNeverStop : Obligations.EnabledEventsNeverStop := by
  refine fun s => ⟨fun e _ => exists_performEvent e s, exists_mainStep s, fun e r => ?_⟩
  rcases stepEvent_next_or_stuck e s with ⟨-, t, hstep⟩ | ⟨-, hstuck⟩
  · simp [hstep]
  · simp [hstuck]

/-- Settles O29: the two forms of RX_CHECK, where what `exec` answers is the command's effect. -/
theorem rxCheckRunsAtMostOneCommand : Obligations.RxCheckRunsAtMostOneCommand := by
  refine ⟨fun s hp hr => mainStep_rxCheck_nil hp hr, fun s t c rest hp hr hexec => ?_⟩
  obtain rfl := Host.Outcome.next.inj ((exec_eq_commandEffect _ _).symm.trans hexec)
  exact mainStep_rxCheck_cons hp hr

/-! ### The step of the machine (R185) -/

/-- Every byte decodes to a well-formed command. -/
theorem wellFormed_decode (c : Byte) : (decode c).wellFormed = true :=
  (expresses_defaultTable _).symm.trans (expresses_decodeWith defaultTable_wellFormed c)

/-- Settles O30: the step is MAIN's on the state with the turn used up, and MAIN's is the command. -/
theorem stepRunsTheDecodedCommand : Obligations.StepRunsTheDecodedCommand := by
  rintro s c rest i hnext hp hr rfl
  refine ⟨wellFormed_decode c, ?_⟩
  rw [step_eq, hnext, stepEvent_main, mainStep_rxCheck_cons (s := advanceTurn s) hp hr, exec_eq_commandEffect,
    andThen_next]
  rfl

/-- A step of the machine is a step of the block: its event is enabled, and the turn used up changes no draw. -/
theorem stepsTo_of_step {s u : State} {o : Oracle} (ho : o.DrawsInRange) (h : step (s.withOracle o) = .next u) :
    StepsTo s u := by
  obtain ⟨hen, hperf⟩ := stepEvent_eq_next h
  exact ⟨(advanceTurn (s.withOracle o)).oracle, nextEvent (s.withOracle o), ho, by simpa using hen, hperf⟩

/-- A step of the block is a step of the machine whose schedule names the event. -/
theorem exists_step_of_stepsTo {s u : State} (h : StepsTo s u) :
    ∃ o v, o.DrawsInRange ∧ step (s.withOracle o) = .next v ∧ SameBlock v u := by
  obtain ⟨o, e, ho, hen, hperf⟩ := h
  have hstep : stepEvent e (s.withOracle o) = .next u :=
    (stepEvent_enabled ((enabled_withOracle e s o).trans hen)).trans hperf
  have hturn := step_withAgenda_cons e [] o.turns (s.withOracle o)
  rw [hstep, andThen_next] at hturn
  exact ⟨{ o with schedule := [e] }, withAgenda [] (o.turns + 1) u, ho, hturn, rfl⟩

/-- Agreement in the spec's record is transitive. -/
theorem SameBlock.trans {s t u : State} (h : SameBlock s t) (h' : SameBlock t u) : SameBlock s u :=
  (congrArg (State.withOracle · u.oracle) h).trans h'

/-- Settles O33: the two directions above, each up to the oracle. -/
theorem stepsOverAllOraclesAreTheStepRelation : Obligations.StepsOverAllOraclesAreTheStepRelation := by
  refine fun s t => ⟨fun ⟨o, u, ho, hstep, hsame⟩ => ⟨u, stepsTo_of_step ho hstep, hsame⟩, fun ⟨u, hsteps, hsame⟩ => ?_⟩
  obtain ⟨o, v, ho, hstep, hvu⟩ := exists_step_of_stepsTo hsteps
  exact ⟨o, v, ho, hstep, hvu.trans hsame⟩

/-! ### The phases of one iteration (R180) -/

/-- Settles O35: RX_CHECK's step, then one or three more, as the TEST says. -/
theorem iterationVisitsThePhasesInOrder : Obligations.IterationVisitsThePhasesInOrder := by
  intro s hp
  obtain ⟨t, hcheck⟩ := exists_mainStep s
  have htest : t.phase = .sampleCheck := phase_of_mainStep_rxCheck hp hcheck
  refine ⟨t, hcheck, htest, fun hw => ⟨_, mainStep_test_unwanted htest hw, rfl⟩, fun hw => ?_⟩
  exact ⟨_, _, _, mainStep_test_wanted htest hw, rfl, mainStep_emit rfl, rfl, mainStep_clear rfl, rfl⟩

/-! ### A firing beside a command (R183; 90_conflicts.md C6) -/

/-- A command that leaves the block streaming is neither StopStreaming nor Connect. -/
theorem not_stop_of_isStreaming {i : Instr} {s : State} (h : (commandEffect i s).isStreaming = true) :
    i ≠ .stopStreaming ∧ i ≠ .connect := by
  constructor
  · rintro rfl
    cases h
  · rintro rfl
    cases h

/-- No command but these two touches a pending request. -/
theorem timerPending_of_not_stop {i : Instr} (hstop : i ≠ .stopStreaming) (hconnect : i ≠ .connect) (s : State) :
    (commandEffect i s).timerPending = s.timerPending := by
  cases i with
  | stopStreaming => exact absurd rfl hstop
  | connect => exact absurd rfl hconnect
  | startStreaming => rw [commandEffect, startStreaming_eq]
  | selectWave1 | selectWave2 | selectRangeSmall | selectRangeLarge | unknown c => rfl

/-- No command but these two unbinds the handler. -/
theorem irqBound_of_not_stop {i : Instr} (hstop : i ≠ .stopStreaming) (hconnect : i ≠ .connect) {s : State}
    (h : s.irqBound = true) : (commandEffect i s).irqBound = true := by
  cases i with
  | stopStreaming => exact absurd rfl hstop
  | connect => exact absurd rfl hconnect
  | startStreaming => rw [commandEffect, startStreaming_eq]
  | selectWave1 | selectWave2 | selectRangeSmall | selectRangeLarge | unknown c => exact h

/-- These two unbind it, so that no firing can follow. -/
theorem isr_not_enabled_after_stop {i : Instr} (h : i = .stopStreaming ∨ i = .connect) (s : State) :
    enabled .isr (commandEffect i s) = false := by
  rcases h with rfl | rfl <;> rfl

/-- Every other command does the same before a firing as after it: neither reads what the other writes. -/
theorem commandEffect_onTimerInterrupt {i : Instr} (hstop : i ≠ .stopStreaming) (hconnect : i ≠ .connect) (s : State) :
    commandEffect i (onTimerInterrupt s) = onTimerInterrupt (commandEffect i s) := by
  cases i with
  | stopStreaming => exact absurd rfl hstop
  | connect => exact absurd rfl hconnect
  | startStreaming => simp [onTimerInterrupt, timerAck, setSampleDue, commandEffect, startStreaming_eq]
  | selectWave1 | selectWave2 | selectRangeSmall | selectRangeLarge | unknown c => rfl

/-- A stop or Connect after a firing leaves no trace of it. -/
theorem commandEffect_absorbs_firing {i : Instr} (h : i = .stopStreaming ∨ i = .connect) (s : State) :
    commandEffect i (onTimerInterrupt s) = commandEffect i s := by
  rcases h with rfl | rfl <;> rfl

theorem enabled_isr_iff (s : State) : enabled .isr s = true ↔ s.timerPending = true ∧ s.irqBound = true :=
  Bool.and_eq_true_iff

/-- A firing and the command after it. -/
theorem runEvents_isr_then_command {s : State} {c : Byte} {rest : List Byte} (hp : s.phase = .rxCheck)
    (hen : enabled .isr s = true) (hr : s.rx = c :: rest) :
    runEvents [.isr, .main] s =
      .next (setPhase .sampleCheck (commandEffect (decode c) (onTimerInterrupt { s with rx := rest }))) := by
  have hfire : stepEvent .isr s = .next (onTimerInterrupt s) := stepEvent_enabled hen
  have hcommand : mainStep (onTimerInterrupt s) = _ := mainStep_rxCheck_cons hp hr
  rw [runEvents_cons, hfire, andThen_next, runEvents_cons, stepEvent_main, hcommand, andThen_next, runEvents_nil]
  rfl

/-- Settles O57: a stop or Connect absorbs the firing and leaves none enabled; every other command leaves it enabled and
commutes with it. -/
theorem firingCommutesWithTheCommand : Obligations.FiringCommutesWithTheCommand := by
  refine ⟨fun s c rest hp hen hr hstop hconnect => ?_, fun s c rest hp hen hr hdiscards => ?_⟩
  · obtain ⟨hpending, hbound⟩ := (enabled_isr_iff s).1 hen
    have hlater : enabled .isr (setPhase .sampleCheck (commandEffect (decode c) { s with rx := rest })) = true :=
      (enabled_isr_iff _).2 ⟨(timerPending_of_not_stop hstop hconnect _).trans hpending,
        irqBound_of_not_stop hstop hconnect hbound⟩
    refine ⟨_, runEvents_isr_then_command hp hen hr, ?_⟩
    rw [runEvents_cons, stepEvent_main, mainStep_rxCheck_cons hp hr, andThen_next, runEvents_cons,
      stepEvent_enabled hlater, commandEffect_onTimerInterrupt hstop hconnect]
    rfl
  · refine ⟨_, runEvents_isr_then_command hp hen hr, ?_, isr_not_enabled_after_stop hdiscards _⟩
    rw [runEvents_cons, stepEvent_main, mainStep_rxCheck_cons hp hr, andThen_next, runEvents_nil,
      commandEffect_absorbs_firing hdiscards]

end Sys2Proof.Machine
end

section
/-! PROOFS. Iterations of the Dispatch Loop (43_dispatch_loop.md R187): what `k` of them come to, one iteration at a
time, beside what handling the first `k` bytes of the queue comes to. -/

namespace Sys2Proof.Machine

/-! ### Handling bytes in order -/

/-- What handling these bytes in order leads to. -/
def handled (bs : List Byte) (s : State) : State := bs.foldl (fun t c => commandEffect (decode c) t) s

theorem handleAll_eq_handled (bs : List Byte) (s : State) : handleAll bs s = .next (handled bs s) := handleAll_eq bs s

@[simp] theorem handled_nil (s : State) : handled [] s = s := rfl

@[simp] theorem handled_cons (c : Byte) (cs : List Byte) (s : State) :
    handled (c :: cs) s = handled cs (commandEffect (decode c) s) := rfl

theorem handled_append (bs cs : List Byte) (s : State) : handled (bs ++ cs) s = handled cs (handled bs s) :=
  List.foldl_append

@[simp] theorem handled_phase (bs : List Byte) (s : State) : (handled bs s).phase = s.phase := by
  induction bs generalizing s with
  | nil => rfl
  | cons c cs ih => rw [handled_cons, ih, commandEffect_phase]

/-- Handling bytes neither reads nor writes the inbound queue. -/
theorem handled_withRx (bs : List Byte) (s : State) (q : List Byte) :
    handled bs { s with rx := q } = { handled bs s with rx := q } := by
  induction bs generalizing s with
  | nil => rfl
  | cons c cs ih => rw [handled_cons, commandEffect_withRx, ih, handled_cons]

/-- No command marks a sample due, so no row of commands does. -/
theorem handled_not_due (bs : List Byte) {s : State} (h : s.sampleDue = false) : (handled bs s).sampleDue = false := by
  induction bs generalizing s with
  | nil => exact h
  | cons c cs ih => exact ih (Bool.eq_false_iff.2 fun hdue => Bool.eq_false_iff.1 h (sampleDue_of_commandEffect hdue))

/-! ### A due sample on the way -/

/-- `t` is `u` but for the inbound queue and a due sample: its flag, the packets between `u`'s replies, and the draws
they used. -/
structure SameButSample (u t : State) : Prop where
  frame : t = { u with rx := t.rx, sampleDue := t.sampleDue, tx := t.tx, oracle := t.oracle }
  replies : u.tx.Sublist t.tx

theorem SameButSample.refl (s : State) : SameButSample s s := ⟨rfl, List.Sublist.refl _⟩

theorem SameButSample.trans {s u t : State} (h : SameButSample s u) (h' : SameButSample u t) : SameButSample s t where
  frame := by
    rw [h'.frame, h.frame]
  replies := h.replies.trans h'.replies

/-- A command takes such states to such states: it reads none of these fields, and its reply comes last in both logs. -/
theorem SameButSample.commandEffect {u t : State} (h : SameButSample u t) (i : Instr) :
    SameButSample (commandEffect i u) (commandEffect i t) where
  frame := by
    rw [h.frame]
    cases i with
    | startStreaming => simp [Machine.commandEffect, startStreaming_eq]
    | connect | stopStreaming | selectWave1 | selectWave2 | selectRangeSmall | selectRangeLarge | unknown c => rfl
  replies := by
    rw [commandEffect_tx, commandEffect_tx]
    exact h.replies.append_right _

theorem SameButSample.handled {u t : State} (h : SameButSample u t) (bs : List Byte) :
    SameButSample (handled bs u) (handled bs t) := by
  induction bs generalizing u t with
  | nil => exact h
  | cons c cs ih => exact ih (h.commandEffect (decode c))

/-! ### One iteration (R180, R181) -/

/-- The head of the queue, if there is one, taken and handled: what RX_CHECK comes to but for the phase. -/
def afterHead (s : State) : State := { handled (s.rx.take 1) s with rx := s.rx.drop 1 }

@[simp] theorem afterHead_rx (s : State) : (afterHead s).rx = s.rx.drop 1 := rfl

@[simp] theorem afterHead_phase (s : State) : (afterHead s).phase = s.phase := handled_phase _ s

theorem mainStep_rxCheck {s : State} (hp : s.phase = .rxCheck) :
    mainStep s = .next (setPhase .sampleCheck (afterHead s)) := by
  cases hr : s.rx with
  | nil =>
    have hsame : afterHead s = s := by rw [afterHead, hr, List.take_nil, List.drop_nil, handled_nil, ← hr]
    rw [mainStep_rxCheck_nil hp hr, hsame]
  | cons c rest =>
    rw [mainStep_rxCheck_cons hp hr, commandEffect_withRx, afterHead, hr]
    rfl

theorem setPhase_self {s : State} {p : Phase} (h : s.phase = p) : setPhase p s = s := by
  rw [← h]
  rfl

@[simp] theorem sampleWanted_setPhase (p : Phase) (s : State) : sampleWanted (setPhase p s) = sampleWanted s := rfl

/-- An iteration that wants no sample handles the head and does nothing else. -/
theorem iteration_of_unwanted {s : State} (hp : s.phase = .rxCheck) (hw : sampleWanted (afterHead s) = false) :
    iteration s = .next (afterHead s) := by
  have htest : mainStep (setPhase .sampleCheck (afterHead s)) = .next (setPhase .rxCheck (afterHead s)) :=
    mainStep_test_unwanted rfl hw
  rw [iteration_of_rxCheck hp (mainStep_rxCheck hp), sampleWanted_setPhase, if_neg (Bool.eq_false_iff.1 hw)]
  simp only [runEvents_cons, runEvents_nil, stepEvent_main, mainStep_rxCheck hp, htest, andThen_next]
  rw [setPhase_self ((afterHead_phase s).trans hp)]

/-- The packet of the sample that is read, appended to the log: what EMIT comes to but for the phase. -/
def afterPacket (s : State) : State := txAppend (encodeSample (samplerValue s)) (samplerAdvance s)

/-- An iteration that wants a sample handles the head, then sends the sample and consumes it. -/
theorem iteration_of_wanted {s : State} (hp : s.phase = .rxCheck) (hw : sampleWanted (afterHead s) = true) :
    iteration s = .next (setSampleDue false (afterPacket (afterHead s))) := by
  have htest : mainStep (setPhase .sampleCheck (afterHead s)) = .next (setPhase .emit (afterHead s)) :=
    mainStep_test_wanted rfl hw
  have hemit : mainStep (setPhase .emit (afterHead s)) = .next (setPhase .clear (afterPacket (afterHead s))) :=
    mainStep_emit rfl
  have hclear : mainStep (setPhase .clear (afterPacket (afterHead s))) =
      .next (setPhase .rxCheck (setSampleDue false (afterPacket (afterHead s)))) :=
    mainStep_clear rfl
  have hphase : (setSampleDue false (afterPacket (afterHead s))).phase = .rxCheck := (afterHead_phase s).trans hp
  rw [iteration_of_rxCheck hp (mainStep_rxCheck hp), sampleWanted_setPhase, if_pos hw]
  simp only [runEvents_cons, runEvents_nil, stepEvent_main, mainStep_rxCheck hp, htest, hemit, hclear, andThen_next]
  rw [setPhase_self hphase]

/-! ### `k` iterations (R187) -/

/-- What `k` iterations from `s` come to. -/
structure AfterIterations (k : Nat) (s t : State) : Prop where
  phase : t.phase = .rxCheck
  rx : t.rx = s.rx.drop k
  handles : SameButSample (handled (s.rx.take k) s) t
  exact : s.sampleDue = false → t = { handled (s.rx.take k) s with rx := s.rx.drop k }

/-- Iterations add up: the later ones handle the bytes that the earlier ones leave. -/
theorem AfterIterations.trans {j k : Nat} {s u t : State} (h : AfterIterations j s u) (h' : AfterIterations k u t) :
    AfterIterations (j + k) s t := by
  have hhandled : handled (s.rx.take (j + k)) s = handled (u.rx.take k) (handled (s.rx.take j) s) := by
    rw [List.take_add, handled_append, h.rx]
  refine ⟨h'.phase, by rw [h'.rx, h.rx, List.drop_drop], ?_, fun hdue => ?_⟩
  · rw [hhandled]
    exact (h.handles.handled _).trans h'.handles
  · have hu := h.exact hdue
    have hnone : u.sampleDue = false := by
      rw [hu]
      exact handled_not_due _ hdue
    rw [h'.exact hnone, hhandled, hu, handled_withRx, List.drop_drop]

theorem exists_iteration {s : State} (hp : s.phase = .rxCheck) :
    ∃ t, iteration s = .next t ∧ AfterIterations 1 s t := by
  cases hw : sampleWanted (afterHead s) with
  | false => exact ⟨_, iteration_of_unwanted hp hw, (afterHead_phase s).trans hp, rfl, ⟨rfl, .refl _⟩, fun _ => rfl⟩
  | true =>
    refine ⟨_, iteration_of_wanted hp hw, (afterHead_phase s).trans hp, rfl, ⟨rfl, List.sublist_append_left _ _⟩,
      fun hdue => ?_⟩
    have hnone : (afterHead s).sampleDue = false := handled_not_due _ hdue
    rw [sampleDue_of_sampleWanted hw] at hnone
    cases hnone

theorem exists_iterations (k : Nat) {s : State} (hp : s.phase = .rxCheck) :
    ∃ t, iterations k s = .next t ∧ AfterIterations k s t := by
  induction k generalizing s with
  | zero => exact ⟨s, rfl, hp, rfl, .refl s, fun _ => rfl⟩
  | succ k ih =>
    obtain ⟨u, hfirst, hu⟩ := exists_iteration hp
    obtain ⟨t, hrest, ht⟩ := ih hu.phase
    exact ⟨t, by rw [iterations, hfirst, andThen_next, hrest], Nat.add_comm k 1 ▸ hu.trans ht⟩

/-- Settles O36: the iterations one after the other, beside what handling their bytes comes to. -/
theorem iterationsHandleOneByteEach : Obligations.IterationsHandleOneByteEach := by
  intro k s hp
  obtain ⟨t, hrun, ht⟩ := exists_iterations k hp
  exact ⟨t, _, hrun, handleAll_eq_handled _ s, ht.phase, ht.rx, ht.handles.frame, ht.handles.replies, ht.exact⟩

end Sys2Proof.Machine
end

section
/-! PROOFS. Fair infinite runs (43_dispatch_loop.md R186, R187): MAIN comes back to each phase it waits at, so every
waiting byte is handled; and while the block streams, firings go on for ever and each leads to a sample. -/

namespace Sys2Proof.Machine

/-! ### MAIN's phases (R180) -/

/-- The order of the phases. -/
def Phase.LeadsTo : Phase → Phase → Prop
  | .rxCheck, q => q = .sampleCheck
  | .sampleCheck, q => q = .emit ∨ q = .rxCheck
  | .emit, q => q = .clear
  | .clear, q => q = .rxCheck

/-- CLEAR is entered from EMIT alone. -/
theorem Phase.eq_emit_of_leadsTo_clear {p : Phase} (h : p.LeadsTo .clear) : p = .emit := by
  cases p with
  | emit => rfl
  | rxCheck | clear => cases h
  | sampleCheck => rcases h with h | h <;> cases h

/-- MAIN's micro-steps keep that order. -/
theorem mainStep_phase {s t : State} (h : mainStep s = .next t) : s.phase.LeadsTo t.phase := by
  rcases mainStep_cases h with ⟨hp, -, rfl⟩ | ⟨c, rest, hp, -, rfl⟩ | ⟨hp, -, rfl⟩ | ⟨hp, -, rfl⟩ | ⟨hp, rfl⟩ |
    ⟨hp, rfl⟩
  all_goals rw [hp]
  · rfl
  · rfl
  · exact .inl rfl
  · exact .inr rfl
  · rfl
  · rfl

/-- No other agent moves MAIN. -/
theorem phase_of_ne_main {e : Event} {s t : State} (he : e ≠ .main) (h : stepEvent e s = .next t) :
    t.phase = s.phase := by
  obtain ⟨_, _, _, rfl⟩ := stepEvent_of_ne_main he h
  rfl

/-- A step that is not EMIT does not bring MAIN to CLEAR. -/
theorem phase_ne_clear_of_stepEvent {e : Event} {s t : State} (h : stepEvent e s = .next t) (hp : s.phase ≠ .clear)
    (hemit : ¬ (e = .main ∧ s.phase = .emit)) : t.phase ≠ .clear := by
  intro ht
  by_cases he : e = .main
  · subst he
    exact hemit ⟨rfl, Phase.eq_emit_of_leadsTo_clear (ht ▸ mainStep_phase h)⟩
  · exact hp ((phase_of_ne_main he h).symm.trans ht)

/-! ### One instant of an infinite run -/

section

variable {event : Nat → Event} {state : Nat → State}

/-- Each instant is a step of its event, under some environment. -/
theorem InfiniteRun.stepEvent (h : InfiniteRun event state) (n : Nat) :
    ∃ o : Oracle, o.DrawsInRange ∧ stepEvent (event n) ((state n).withOracle o) = .next (state (n + 1)) := by
  obtain ⟨o, ho, hen, hperf⟩ := h n
  exact ⟨o, ho, (stepEvent_enabled ((enabled_withOracle _ _ o).trans hen)).trans hperf⟩

/-- A run that begins with the invariant keeps it. -/
theorem InfiniteRun.inv (h : InfiniteRun event state) (h0 : Inv (state 0)) (n : Nat) : Inv (state n) := by
  induction n with
  | zero => exact h0
  | succ n ih =>
    obtain ⟨o, ho, hstep⟩ := h.stepEvent n
    exact (ih.withOracle ho).stepEvent hstep

/-- MAIN steps at phase `p` at instant `m`. -/
def MainAt (event : Nat → Event) (state : Nat → State) (p : Phase) (m : Nat) : Prop :=
  event m = .main ∧ (state m).phase = p

/-- MAIN's step at `p` leads to a phase that follows `p`. -/
theorem InfiniteRun.mainPhase (h : InfiniteRun event state) {p : Phase} {n : Nat} (hm : MainAt event state p n) :
    p.LeadsTo (state (n + 1)).phase := by
  obtain ⟨he, rfl⟩ := hm
  obtain ⟨o, -, hstep⟩ := h.stepEvent n
  rw [he, stepEvent_main] at hstep
  exact mainStep_phase (s := (state n).withOracle o) hstep

/-! ### MAIN goes on for ever (R186) -/

/-- A phase waits for MAIN: MAIN's next step finds it as it is now. -/
theorem Fair.exists_mainAt (hfair : Fair event state) (h : InfiniteRun event state) {p : Phase} {n : Nat}
    (hp : (state n).phase = p) : ∃ m, n ≤ m ∧ MainAt event state p m := by
  by_contra hnever
  have hother : ∀ m, n ≤ m → ¬ MainAt event state p m := fun m hnm hm => hnever ⟨m, hnm, hm⟩
  have hwaits : ∀ m, n ≤ m → (state m).phase = p := by
    refine Nat.le_induction hp fun m hnm ih => ?_
    obtain ⟨o, -, hstep⟩ := h.stepEvent m
    exact (phase_of_ne_main (fun he => hother m hnm ⟨he, ih⟩) hstep).trans ih
  obtain ⟨m, hnm, he⟩ := hfair.main n
  exact hother m hnm ⟨he, hwaits m hnm⟩

/-- From CLEAR MAIN comes to RX_CHECK. -/
theorem Fair.exists_mainAt_rxCheck_of_clear (hfair : Fair event state) (h : InfiniteRun event state) {n : Nat}
    (hp : (state n).phase = .clear) : ∃ m, n ≤ m ∧ MainAt event state .rxCheck m := by
  obtain ⟨k, hnk, hk⟩ := hfair.exists_mainAt h hp
  have hnext : (state (k + 1)).phase = .rxCheck := h.mainPhase hk
  obtain ⟨m, hkm, hm⟩ := hfair.exists_mainAt h hnext
  exact ⟨m, by omega, hm⟩

/-- So it does from EMIT, which leads to CLEAR. -/
theorem Fair.exists_mainAt_rxCheck_of_emit (hfair : Fair event state) (h : InfiniteRun event state) {n : Nat}
    (hp : (state n).phase = .emit) : ∃ m, n ≤ m ∧ MainAt event state .rxCheck m := by
  obtain ⟨k, hnk, hk⟩ := hfair.exists_mainAt h hp
  have hnext : (state (k + 1)).phase = .clear := h.mainPhase hk
  obtain ⟨m, hkm, hm⟩ := hfair.exists_mainAt_rxCheck_of_clear h hnext
  exact ⟨m, by omega, hm⟩

/-- MAIN takes the RX check for ever. -/
theorem Fair.exists_mainAt_rxCheck (hfair : Fair event state) (h : InfiniteRun event state) (n : Nat) :
    ∃ m, n ≤ m ∧ MainAt event state .rxCheck m := by
  cases hp : (state n).phase with
  | rxCheck => exact hfair.exists_mainAt h hp
  | clear => exact hfair.exists_mainAt_rxCheck_of_clear h hp
  | emit => exact hfair.exists_mainAt_rxCheck_of_emit h hp
  | sampleCheck =>
    obtain ⟨k, hnk, hk⟩ := hfair.exists_mainAt h hp
    have hnext : (state (k + 1)).phase = .emit ∨ (state (k + 1)).phase = .rxCheck :=
      h.mainPhase hk
    obtain ⟨m, hkm, hm⟩ := hnext.elim (hfair.exists_mainAt_rxCheck_of_emit h) (hfair.exists_mainAt h)
    exact ⟨m, by omega, hm⟩

/-- MAIN takes the sample check for ever. -/
theorem Fair.exists_mainAt_sampleCheck (hfair : Fair event state) (h : InfiniteRun event state) (n : Nat) :
    ∃ m, n ≤ m ∧ MainAt event state .sampleCheck m := by
  obtain ⟨k, hnk, hk⟩ := hfair.exists_mainAt_rxCheck h n
  have hnext : (state (k + 1)).phase = .sampleCheck := h.mainPhase hk
  obtain ⟨m, hkm, hm⟩ := hfair.exists_mainAt h hnext
  exact ⟨m, by omega, hm⟩

/-! ### The bytes a fair run handles (R187) -/

theorem handledFrom_succ (n k : Nat) :
    handledFrom event state n (k + 1) = handledFrom event state n k ++ handledBy (event (n + k)) (state (n + k)) := by
  simp [handledFrom, List.range_succ]

/-- What an event handles does not depend on the environment. -/
theorem handledBy_withOracle (e : Event) (s : State) (o : Oracle) : handledBy e (s.withOracle o) = handledBy e s := rfl

/-- The queue and what arrives after it are what is handled and what still waits, in this order. -/
theorem InfiniteRun.exists_arrivals (h : InfiniteRun event state) (n k : Nat) :
    ∃ arrivals, (state n).rx ++ arrivals = handledFrom event state n k ++ (state (n + k)).rx := by
  induction k with
  | zero => exact ⟨[], List.append_nil _⟩
  | succ k ih =>
    obtain ⟨arrivals, ih⟩ := ih
    obtain ⟨o, -, hstep⟩ := h.stepEvent (n + k)
    have hrx := stepEvent_rx hstep
    rw [handledBy_withOracle, withOracle_rx] at hrx
    exact ⟨arrivals ++ bytesIn (event (n + k)), by
      rw [← List.append_assoc, ih, List.append_assoc, hrx, handledFrom_succ, List.append_assoc, Nat.add_assoc]⟩

/-- One event handles at most one byte (R181). -/
theorem length_handledBy_le (e : Event) (s : State) : (handledBy e s).length ≤ 1 := by
  unfold handledBy
  split
  · exact List.length_take_le 1 s.rx
  · exact Nat.zero_le 1

theorem monotone_length_handledFrom (n : Nat) : Monotone fun k => (handledFrom event state n k).length :=
  monotone_nat_of_le_succ fun k => by
    rw [handledFrom_succ, List.length_append]
    exact Nat.le_add_right _ _

/-- As many of the waiting bytes as one likes come to be handled: until then MAIN's next RX check finds another. -/
theorem Fair.exists_le_length_handledFrom (hfair : Fair event state) (h : InfiniteRun event state) (n : Nat) {j : Nat}
    (hj : j ≤ (state n).rx.length) : ∃ k, j ≤ (handledFrom event state n k).length := by
  induction j with
  | zero => exact ⟨0, Nat.zero_le _⟩
  | succ j ih =>
    obtain ⟨k, hk⟩ := ih (Nat.le_of_succ_le hj)
    obtain ⟨m, hm, he, hp⟩ := hfair.exists_mainAt_rxCheck h (n + k)
    obtain ⟨d, rfl⟩ := Nat.exists_eq_add_of_le hm
    rw [Nat.add_assoc] at he hp
    have hsofar : j ≤ (handledFrom event state n (k + d)).length :=
      hk.trans (monotone_length_handledFrom n (Nat.le_add_right k d))
    obtain ⟨arrivals, hqueue⟩ := h.exists_arrivals n (k + d)
    have hlength := congrArg List.length hqueue
    rw [List.length_append, List.length_append] at hlength
    refine ⟨k + d + 1, ?_⟩
    rw [handledFrom_succ, he, handledBy_main_rxCheck hp, List.length_append, List.length_take]
    omega

end

/-- A count that starts at 0 and rises by at most 1 passes no number by. -/
theorem exists_eq_of_le_of_step_le {f : Nat → Nat} (hzero : f 0 = 0) (hstep : ∀ k, f (k + 1) ≤ f k + 1) {j k : Nat}
    (hj : j ≤ f k) : ∃ m, f m = j := by
  induction k with
  | zero => exact ⟨0, by omega⟩
  | succ k ih =>
    by_cases hk : j ≤ f k
    · exact ih hk
    · exact ⟨k + 1, by have := hstep k; omega⟩

/-- Settles O59: at the instant when one byte more than `k` is handled, these are the first of the queue. -/
theorem fairRunsHandleEveryWaitingByte : Obligations.FairRunsHandleEveryWaitingByte := by
  intro event state h hfair n k hk
  obtain ⟨bound, hbound⟩ := hfair.exists_le_length_handledFrom h n hk
  obtain ⟨m, hm⟩ := exists_eq_of_le_of_step_le (f := fun m => (handledFrom event state n m).length) rfl
    (fun m => by
      rw [handledFrom_succ, List.length_append]
      exact Nat.add_le_add_left (length_handledBy_le _ _) _) hbound
  obtain ⟨arrivals, hqueue⟩ := h.exists_arrivals n m
  refine ⟨m, ?_⟩
  calc handledFrom event state n m = ((state n).rx ++ arrivals).take (k + 1) := by rw [hqueue, List.take_left' hm]
    _ = (state n).rx.take (k + 1) := List.take_append_of_le_length hk

/-! ### Firings and the due sample while streaming -/

/-- While streaming, a due sample stays due until CLEAR (R108). -/
theorem sampleDue_kept_while_streaming {e : Event} {s t : State} (h : stepEvent e s = .next t)
    (hdue : s.sampleDue = true) (hstream : t.isStreaming = true) (hclear : s.phase ≠ .clear) : t.sampleDue = true := by
  by_contra hgone
  have ht : t.sampleDue = false := Bool.eq_false_iff.2 hgone
  obtain rfl := sampleDue_cleared_only_by_main h hdue ht
  rcases (mainStep_clears_sampleDue_iff h hdue).1 ht with hp | ⟨hp, c, rest, hr, hdiscards⟩
  · exact hclear hp
  · cases (mainStep_rxCheck_cons hp hr).symm.trans h
    obtain ⟨hstop, hconnect⟩ := not_stop_of_isStreaming hstream
    exact hdiscards.elim hstop hconnect

/-- The tick raises the request. -/
theorem timerPending_of_tick {s t : State} (h : stepEvent .tick s = .next t) : t.timerPending = true := by
  cases (stepEvent_eq_next h).2
  rfl

/-- The handler marks a sample due. -/
theorem sampleDue_of_isr {s t : State} (h : stepEvent .isr s = .next t) : t.sampleDue = true := by
  cases (stepEvent_eq_next h).2
  rfl

/-- While streaming, a request stays pending until the handler runs. -/
theorem timerPending_kept_while_streaming {e : Event} {s t : State} (h : stepEvent e s = .next t)
    (hpending : s.timerPending = true) (hstream : t.isStreaming = true) (he : e ≠ .isr) : t.timerPending = true := by
  rcases stepEvent_cases h with ⟨-, hmain⟩ | ⟨-, -, rfl⟩ | ⟨hisr, -⟩ | ⟨b, -, rfl⟩
  · rcases mainStep_cases hmain with ⟨-, -, rfl⟩ | ⟨c, rest, -, -, rfl⟩ | ⟨-, -, rfl⟩ | ⟨-, -, rfl⟩ | ⟨-, rfl⟩ |
      ⟨-, rfl⟩
    · exact hpending
    · obtain ⟨hstop, hconnect⟩ := not_stop_of_isStreaming hstream
      exact (timerPending_of_not_stop hstop hconnect _).trans hpending
    · exact hpending
    · exact hpending
    · exact hpending
    · exact hpending
  · rfl
  · exact absurd hisr he
  · exact hpending

section

variable {event : Nat → Event} {state : Nat → State} {start : Nat}

/-- In a fair run that streams the handler runs for ever: the timer ticks for ever, and a request waits for it. -/
theorem Fair.exists_isr (hfair : Fair event state) (h : InfiniteRun event state) (hinv : ∀ m, Inv (state m))
    (hstream : ∀ m, start ≤ m → (state m).isStreaming = true) (n : Nat) : ∃ m, n ≤ m ∧ event m = .isr := by
  by_contra hnever
  have hother : ∀ m, n ≤ m → event m ≠ .isr := fun m hnm he => hnever ⟨m, hnm, he⟩
  obtain ⟨k, hk, htick⟩ := hfair.timer ⟨start, fun m hm => (hinv m).flags.armed.trans (hstream m hm)⟩ (max n start)
  have hpending : ∀ m, k + 1 ≤ m → (state m).timerPending = true := by
    refine Nat.le_induction ?_ fun m hkm ih => ?_
    · obtain ⟨o, -, hstep⟩ := h.stepEvent k
      rw [htick] at hstep
      exact timerPending_of_tick hstep
    · obtain ⟨o, -, hstep⟩ := h.stepEvent m
      exact timerPending_kept_while_streaming hstep ih (hstream _ (by omega)) (hother m (by omega))
  obtain ⟨m, hkm, hisr⟩ := hfair.handler (k + 1) fun m hkm =>
    (enabled_isr_iff _).2 ⟨hpending m hkm, (hinv m).flags.bound.trans (hstream m (by omega))⟩
  exact hother m (by omega) hisr

/-- A due sample that no CLEAR takes stays due while streaming, so the next TEST leads MAIN to EMIT. -/
theorem Fair.exists_mainAt_emit_of_due (hfair : Fair event state) (h : InfiniteRun event state)
    (hstream : ∀ m, start ≤ m → (state m).isStreaming = true) (hclear : ∀ m, start ≤ m → (state m).phase ≠ .clear)
    {n : Nat} (hn : start ≤ n) (hdue : (state n).sampleDue = true) : ∃ m, n ≤ m ∧ MainAt event state .emit m := by
  have hstays : ∀ m, n ≤ m → (state m).sampleDue = true := by
    refine Nat.le_induction hdue fun m hnm ih => ?_
    obtain ⟨o, -, hstep⟩ := h.stepEvent m
    exact sampleDue_kept_while_streaming hstep ih (hstream _ (by omega)) (hclear m (by omega))
  obtain ⟨k, hnk, he, hk⟩ := hfair.exists_mainAt_sampleCheck h n
  have hwanted : sampleWanted (state k) = true := (sampleWanted_iff _).2 ⟨hstream k (by omega), hstays k hnk⟩
  have hemit : (state (k + 1)).phase = .emit := by
    obtain ⟨o, -, hstep⟩ := h.stepEvent k
    rw [he, stepEvent_main, mainStep_test_wanted (s := (state k).withOracle o) hk hwanted] at hstep
    rw [← Host.Outcome.next.inj hstep, setPhase_phase]
  obtain ⟨m, hkm, hm⟩ := hfair.exists_mainAt h hemit
  exact ⟨m, by omega, hm⟩

end

/-- Settles O60: if MAIN sent no sample any more, it would never be at CLEAR again after its next RX check, so that the
next firing's sample would stay due until a TEST, which leads to EMIT. -/
theorem fairStreamingRunsSendSamplesForEver : Obligations.FairStreamingRunsSendSamplesForEver := by
  rintro event state h hfair h0 ⟨start, hstream⟩ n
  by_contra hnever
  have hnone : ∀ m, n ≤ m → ¬ MainAt event state .emit m := fun m hnm hm => hnever ⟨m, hnm, hm⟩
  obtain ⟨a, ha, -, hcheck⟩ := hfair.exists_mainAt_rxCheck h (max n start)
  have hclear : ∀ m, a ≤ m → (state m).phase ≠ .clear := by
    refine Nat.le_induction (by simp [hcheck]) fun m ham ih => ?_
    obtain ⟨o, -, hstep⟩ := h.stepEvent m
    exact phase_ne_clear_of_stepEvent hstep ih (hnone m (by omega))
  obtain ⟨b, hab, hisr⟩ := hfair.exists_isr h (h.inv h0) hstream a
  obtain ⟨o, -, hstep⟩ := h.stepEvent b
  rw [hisr] at hstep
  obtain ⟨m, hbm, hemit⟩ := hfair.exists_mainAt_emit_of_due (start := a) h (fun m ham => hstream m (by omega)) hclear
    (n := b + 1) (by omega) (sampleDue_of_isr hstep)
  exact hnone m (by omega) hemit

end Sys2Proof.Machine
end

section
/-! PROOFS. Interrupt delivery (60_exceptions.md): the tick, the handler's one step, who can raise a request, and what a
stop drops (R202, R203, R207, R211). -/

namespace Sys2Proof.Machine

/-! ### The handler and the tick (R202, R203; 40_streaming_controller.md R104) -/

/-- Settles O20: no streaming means no request, and the handler needs one. -/
theorem handlerMarksDueAndAcknowledges : Obligations.HandlerMarksDueAndAcknowledges :=
  ⟨enabled_isr_iff, fun _ hpending hbound => stepEvent_isr hpending hbound,
    fun _ hflags hidle => Bool.and_eq_false_iff.2 (.inl (hflags.not_pending hidle))⟩

/-- Raising a request that is pending already changes nothing. -/
theorem timerRaise_of_pending {s : State} (h : s.timerPending = true) : timerRaise s = s := by
  rw [timerRaise, ← h]

/-- Settles O21: the tick is the one store of `timerRaise`, which a pending request absorbs. -/
theorem tickRaisesTheRequestWhileArmed : Obligations.TickRaisesTheRequestWhileArmed := by
  refine ⟨fun s => Iff.rfl, fun s harmed => stepEvent_tick harmed, fun s harmed hpending => ?_⟩
  rw [stepEvent_tick harmed, timerRaise_of_pending hpending]

/-! ### Only the tick raises a request (R202, R211) -/

/-- No command raises a request; `start()` in particular leaves the status flag alone. -/
theorem timerPending_of_commandEffect {i : Instr} {s : State} (h : (commandEffect i s).timerPending = true) :
    s.timerPending = true := by
  cases i with
  | connect | stopStreaming => cases h
  | startStreaming => rwa [commandEffect, startStreaming_eq] at h
  | selectWave1 | selectWave2 | selectRangeSmall | selectRangeLarge | unknown c => exact h

/-- A request pending after a step was pending before it, or the step is the tick. -/
theorem timerPending_before_or_tick {e : Event} {s t : State} (h : stepEvent e s = .next t)
    (ht : t.timerPending = true) : s.timerPending = true ∨ e = .tick := by
  rcases stepEvent_cases h with ⟨-, hmain⟩ | ⟨he, -⟩ | ⟨-, -, -, rfl⟩ | ⟨b, -, rfl⟩
  · rcases mainStep_cases hmain with ⟨-, -, rfl⟩ | ⟨c, rest, -, -, rfl⟩ | ⟨-, -, rfl⟩ | ⟨-, -, rfl⟩ | ⟨-, rfl⟩ |
      ⟨-, rfl⟩
    · exact .inl ht
    · exact .inl (timerPending_of_commandEffect (s := { s with rx := rest }) ht)
    · exact .inl ht
    · exact .inl ht
    · exact .inl ht
    · exact .inl ht
  · exact .inr he
  · cases ht
  · exact .inl ht

/-- A request pending after a run was pending before it, or the run has a tick. -/
theorem timerPending_before_or_tick_mem {es : List Event} {s t : State} (hrun : runEvents es s = .next t)
    (ht : t.timerPending = true) : s.timerPending = true ∨ Event.tick ∈ es := by
  refine runEvents_induction
    (P := fun es s t => t.timerPending = true → s.timerPending = true ∨ Event.tick ∈ es)
    (fun _ => .inl) ?_ hrun ht
  intro e es s u t hstep ih ht
  rcases ih ht with hu | hlater
  · rcases timerPending_before_or_tick hstep hu with hs | rfl
    · exact .inl hs
    · exact .inr List.mem_cons_self
  · exact .inr (List.mem_cons_of_mem e hlater)

/-- Settles O54: the stop drops the request, and without a tick no run, whatever it starts again, raises another. -/
theorem stopDropsThePendingRequestForGood : Obligations.StopDropsThePendingRequestForGood := by
  refine fun s => ⟨_, exec_eq_commandEffect .stopStreaming s, rfl, rfl, fun es u hrun hnotick => ?_⟩
  refine Bool.eq_false_iff.2 fun henabled => ?_
  obtain ⟨hpending, -⟩ := (enabled_isr_iff u).1 henabled
  rcases timerPending_before_or_tick_mem hrun hpending with hstopped | htick
  · cases hstopped
  · exact hnotick htick

/-! ### A stop ahead of the sample check (R207) -/

/-- RX_CHECK with a byte queued comes to its command on the rest of the queue. -/
theorem afterHead_of_cons {s : State} {c : Byte} {rest : List Byte} (hr : s.rx = c :: rest) :
    afterHead s = { commandEffect (decode c) s with rx := rest } := by
  rw [afterHead, hr]
  rfl

/-- Settles O56: the stop leaves nothing due, so the TEST of the same iteration wants no sample and sends none. -/
theorem stopBeforeSampleCheckDiscardsTheSample : Obligations.StopBeforeSampleCheckDiscardsTheSample := by
  intro s rest hp hr
  have hdecode : decode 0x73#8 = .stopStreaming := decode_encodeByte (i := .stopStreaming) rfl
  have hhead : afterHead s = { stopStreaming s with rx := rest } := by
    rw [afterHead_of_cons hr, hdecode, commandEffect]
  have hunwanted : sampleWanted (afterHead s) = false := by
    rw [hhead]
    exact (sampleWanted_eq_false_iff _).2 (.inr rfl)
  refine ⟨afterHead s, iteration_of_unwanted hp hunwanted, ?_⟩
  rw [hhead]
  exact ⟨rfl, rfl, rfl, rfl⟩

end Sys2Proof.Machine
end

section
/-! PROOFS. Power-on (70_reset_and_hazards.md R230, R232): the fields, and why neither interrupt-side event can happen. -/

namespace Sys2Proof.Machine

/-- Of the bits of the status word only bit 2 is set at power-on: the range is Large, every flag is off (R39, R230). -/
theorem statusWord_reset : statusWord State.reset = 0x04#8 := by decide

/-- Settles O37: the fields as `State.reset` gives them, and the status word packed from them. -/
theorem powerOnState : Obligations.PowerOnState :=
  ⟨rfl, rfl, rfl, rfl, rfl, rfl, rfl, rfl, rfl, rfl, rfl, rfl, rfl, statusWord_reset⟩

/-- An unbound handler is not enabled, whatever is pending (60_exceptions.md R203). -/
theorem isr_not_enabled_of_unbound {s : State} (hunbound : s.irqBound = false) : enabled .isr s = false := by
  refine Bool.eq_false_iff.2 fun henabled => ?_
  obtain ⟨-, hbound⟩ := (enabled_isr_iff s).1 henabled
  exact absurd hbound (Bool.eq_false_iff.1 hunbound)

/-- A disarmed timer does not tick (60_exceptions.md R202). -/
theorem tick_not_enabled_of_disarmed {s : State} (hdisarmed : s.timerArmed = false) : enabled .tick s = false :=
  hdisarmed

/-- Settles O38: the handler is kept out by being unbound, and the tick by the timer being disarmed. -/
theorem entryContextTakesNoInterrupt : Obligations.EntryContextTakesNoInterrupt := by
  have hunbound : State.reset.irqBound = false := rfl
  have hdisarmed : State.reset.timerArmed = false := rfl
  exact ⟨rfl, hunbound, hdisarmed, isr_not_enabled_of_unbound hunbound, tick_not_enabled_of_disarmed hdisarmed⟩

end Sys2Proof.Machine
end
